-- ==== Sys2Proof/Word.lean ====
section
/-! DEFINITION. The words of the machine: bytes, the 128-bit vector, statement text, and fixed-length lane lists. -/

namespace Sys2Proof

/-- A byte of a Buffer (20_memory.md R70: "A byte is 8 bits; the unit of addressing is the byte"). -/
abbrev Byte := BitVec 8

/-- A `v128` value (10_state.md R35). Bit number `k` of the vector is `v.getLsbD k`; a bit number is a place, not a
significance, and which end of a lane is significant is `LANE_MAPPING`'s to say (R38). -/
abbrev V128 := BitVec 128

/-- Statement text (30_encoding.md R100, R109: the text of a statement is its encoding). -/
abbrev Text := List Char

/-- The name of a value slot or of a Buffer (10_state.md R46: "any identifier"). -/
abbrev Ident := Text

/-- Strict dictionary order of identifiers by character code, used only to keep name-keyed lists in one canonical form. -/
def Ident.before : Ident → Ident → Bool
  | [], [] => false
  | [], _ :: _ => true
  | _ :: _, [] => false
  | a :: as, b :: bs => if a.toNat < b.toNat then true else if b.toNat < a.toNat then false else Ident.before as bs

/-- A list of exactly `n` values, element 0 first: an array operand `T[L]` (30_encoding.md R104) or the lanes of a
boolean vector (10_state.md R36). -/
structure Lanes (α : Type) (n : Nat) where
  toList : List α
  size : toList.length = n
deriving DecidableEq, Repr

/-- The list whose element `i` is `f i`. -/
def Lanes.tabulate {α : Type} (n : Nat) (f : Nat → α) : Lanes α n :=
  ⟨(List.range n).map f, by simp⟩

/-- Element `i`. -/
def Lanes.at {α : Type} {n : Nat} (v : Lanes α n) (i : Fin n) : α :=
  v.toList[i.val]'(by rw [v.size]; exact i.isLt)

/-- Every element replaced by its image. -/
def Lanes.map {α β : Type} {n : Nat} (f : α → β) (v : Lanes α n) : Lanes β n :=
  ⟨v.toList.map f, by rw [List.length_map, v.size]⟩

/-- Elements combined pairwise. -/
def Lanes.zipWith {α β γ : Type} {n : Nat} (f : α → β → γ) (a : Lanes α n) (b : Lanes β n) : Lanes γ n :=
  ⟨List.zipWith f a.toList b.toList, by rw [List.length_zipWith, a.size, b.size, Nat.min_self]⟩

/-- Element `i` replaced by `x`. -/
def Lanes.set {α : Type} {n : Nat} (v : Lanes α n) (i : Fin n) (x : α) : Lanes α n :=
  ⟨v.toList.set i.val x, by rw [List.length_set, v.size]⟩

/-- `n` copies of `x`. -/
def Lanes.replicate {α : Type} (n : Nat) (x : α) : Lanes α n :=
  ⟨List.replicate n x, List.length_replicate⟩

/-- A list as lanes, when it has exactly `n` elements. -/
def Lanes.ofList? {α : Type} (n : Nat) (l : List α) : Option (Lanes α n) :=
  if h : l.length = n then some ⟨l, h⟩ else none

end Sys2Proof
end

