-- ==== Sys2Proof/Config.lean ====
section
/-! DEFINITION. What an implementation or an embedding fixes (the launch parameters of R8), and the free values. -/

namespace Sys2Proof

/-- `LANE_MAPPING` (20_memory.md R74 to R77). The fourth combination is not described by the source and is no value. -/
inductive LaneMapping where
  | leDirect   -- `LE_DIRECT`, R74
  | beDirect   -- `BE_DIRECT`, R75
  | beHybrid   -- `BE_HYBRID`, R76
deriving DecidableEq, Repr

/-- The launch parameters that are fixed for a whole run (00_scope.md R8, 70_reset_and_hazards.md R641, R642). -/
structure Params where
  /-- `LANE_MAPPING`: which end of a lane its lowest-numbered bit is, and the byte order of memory. -/
  laneMapping : LaneMapping
  /-- `FLUSH_SUBNORMALS` (40_fp_semantics.md R146). -/
  flushSubnormals : Bool
  /-- `OFFSET_BITS`, the width of the `ByteOffset` type (20_memory.md R70). -/
  offsetBits : Nat
deriving DecidableEq, Repr

namespace Config

/-- `draw_bool()`, the source's `unspecified_choice()` (00_scope.md R12): the free boolean of draw number `n`. It has no
body, so nothing can be proved of its value. DESIGN CHOICE (log entry 5): a draw is this constant applied to a counter
that every drawing step moves on, so no two evaluations share a draw (40_fp_semantics.md R145). Safe. -/
opaque drawBool : Nat → Bool

/-- `draw(f32)` (R12, 48_fp_arith.md R506, R507): the free 32-bit pattern of draw number `n` (log entry 5). Safe. -/
opaque drawF32 : Nat → BitVec 32

/-- `draw(f64)` (R12, R506, R507): the free 64-bit pattern of draw number `n` (log entry 5). Safe. -/
opaque drawF64 : Nat → BitVec 64

/-- `draw(v128)` (R12, 49_conversions.md R552): the free 128 bits of draw number `n` (log entry 5). Safe. -/
opaque drawV128 : Nat → V128

end Config

end Sys2Proof
end

