-- ==== Sys2Proof/Syntax.lean ====
section
/-! DEFINITION. The instructions: one constructor for each of the 216 named operations (30_encoding.md R103, R110, R111). -/

namespace Sys2Proof

/-- The types of values a slot can hold (10_state.md R46). -/
inductive Ty where
  | v128 | b8x16 | b16x8 | b32x4 | b64x2 | i8 | i16 | i32 | i64 | f32 | f64 | boolean
deriving DecidableEq, Repr

/-- `RoundingMode` (10_state.md R34, 40_fp_semantics.md R135). -/
inductive RoundingMode where
  | tiesToEven
  | towardPositive
  | towardNegative
  | towardZero
deriving DecidableEq, Repr

/-- A `v128` literal `[p0, ..., p(L-1)]_W`: a lane list with its lane width, lane 0 first (30_encoding.md R107). Which 128
bits it stands for depends on `LANE_MAPPING` (10_state.md R38), so a literal is kept as its lanes. -/
inductive V128Lit where
  | w8 (ps : Lanes (BitVec 8) 16)
  | w16 (ps : Lanes (BitVec 16) 8)
  | w32 (ps : Lanes (BitVec 32) 4)
  | w64 (ps : Lanes (BitVec 64) 2)
deriving DecidableEq, Repr

/-- A vector or scalar operand: a slot name or a literal (30_encoding.md R104, R107). -/
inductive Operand (lit : Type) where
  | slot (x : Ident)
  | lit (l : lit)
deriving DecidableEq, Repr

/-- A `v128` operand. -/
abbrev VOperand := Operand V128Lit

/-- One statement (30_encoding.md R109). Destinations come first, then the operands in signature order under the names of
the signature (R103); lane indices, index lists, rounding modes, Buffer names and ByteOffsets are literals of the statement
(R106, R107). Beside each constructor stand its mnemonic and the rule of that operation. -/
inductive Instr where
  | b8x16Build (d : Ident) (x : Lanes (Operand Bool) 16)  -- `b8x16.build`, R202
  | b16x8Build (d : Ident) (x : Lanes (Operand Bool) 8)  -- `b16x8.build`, R203
  | b32x4Build (d : Ident) (x : Lanes (Operand Bool) 4)  -- `b32x4.build`, R204
  | b64x2Build (d : Ident) (x : Lanes (Operand Bool) 2)  -- `b64x2.build`, R205
  | i8x16Build (d : Ident) (x : Lanes (Operand (BitVec 8)) 16)  -- `i8x16.build`, R206
  | i16x8Build (d : Ident) (x : Lanes (Operand (BitVec 16)) 8)  -- `i16x8.build`, R207
  | i32x4Build (d : Ident) (x : Lanes (Operand (BitVec 32)) 4)  -- `i32x4.build`, R208
  | i64x2Build (d : Ident) (x : Lanes (Operand (BitVec 64)) 2)  -- `i64x2.build`, R209
  | f32x4Build (d : Ident) (x : Lanes (Operand (BitVec 32)) 4)  -- `f32x4.build`, R210
  | f64x2Build (d : Ident) (x : Lanes (Operand (BitVec 64)) 2)  -- `f64x2.build`, R211
  | b8x16Splat (d : Ident) (x : Operand Bool)  -- `b8x16.splat`, R212
  | b16x8Splat (d : Ident) (x : Operand Bool)  -- `b16x8.splat`, R213
  | b32x4Splat (d : Ident) (x : Operand Bool)  -- `b32x4.splat`, R214
  | b64x2Splat (d : Ident) (x : Operand Bool)  -- `b64x2.splat`, R215
  | i8x16Splat (d : Ident) (x : Operand (BitVec 8))  -- `i8x16.splat`, R216
  | i16x8Splat (d : Ident) (x : Operand (BitVec 16))  -- `i16x8.splat`, R217
  | i32x4Splat (d : Ident) (x : Operand (BitVec 32))  -- `i32x4.splat`, R218
  | i64x2Splat (d : Ident) (x : Operand (BitVec 64))  -- `i64x2.splat`, R219
  | f32x4Splat (d : Ident) (x : Operand (BitVec 32))  -- `f32x4.splat`, R220
  | f64x2Splat (d : Ident) (x : Operand (BitVec 64))  -- `f64x2.splat`, R221
  | b8x16ExtractLane (d : Ident) (a : Operand (Lanes Bool 16)) (i : Fin 16)  -- `b8x16.extractLane`, R235
  | b16x8ExtractLane (d : Ident) (a : Operand (Lanes Bool 8)) (i : Fin 8)  -- `b16x8.extractLane`, R236
  | b32x4ExtractLane (d : Ident) (a : Operand (Lanes Bool 4)) (i : Fin 4)  -- `b32x4.extractLane`, R237
  | b64x2ExtractLane (d : Ident) (a : Operand (Lanes Bool 2)) (i : Fin 2)  -- `b64x2.extractLane`, R238
  | i8x16ExtractLane (d : Ident) (a : VOperand) (i : Fin 16)  -- `i8x16.extractLane`, R239
  | i16x8ExtractLane (d : Ident) (a : VOperand) (i : Fin 8)  -- `i16x8.extractLane`, R240
  | i32x4ExtractLane (d : Ident) (a : VOperand) (i : Fin 4)  -- `i32x4.extractLane`, R241
  | i64x2ExtractLane (d : Ident) (a : VOperand) (i : Fin 2)  -- `i64x2.extractLane`, R242
  | f32x4ExtractLane (d : Ident) (a : VOperand) (i : Fin 4)  -- `f32x4.extractLane`, R243
  | f64x2ExtractLane (d : Ident) (a : VOperand) (i : Fin 2)  -- `f64x2.extractLane`, R244
  | b8x16ReplaceLane (d : Ident) (a : Operand (Lanes Bool 16)) (i : Fin 16) (x : Operand Bool)  -- `b8x16.replaceLane`, R245
  | b16x8ReplaceLane (d : Ident) (a : Operand (Lanes Bool 8)) (i : Fin 8) (x : Operand Bool)  -- `b16x8.replaceLane`, R246
  | b32x4ReplaceLane (d : Ident) (a : Operand (Lanes Bool 4)) (i : Fin 4) (x : Operand Bool)  -- `b32x4.replaceLane`, R247
  | b64x2ReplaceLane (d : Ident) (a : Operand (Lanes Bool 2)) (i : Fin 2) (x : Operand Bool)  -- `b64x2.replaceLane`, R248
  | i8x16ReplaceLane (d : Ident) (a : VOperand) (i : Fin 16) (x : Operand (BitVec 8))  -- `i8x16.replaceLane`, R249
  | i16x8ReplaceLane (d : Ident) (a : VOperand) (i : Fin 8) (x : Operand (BitVec 16))  -- `i16x8.replaceLane`, R250
  | i32x4ReplaceLane (d : Ident) (a : VOperand) (i : Fin 4) (x : Operand (BitVec 32))  -- `i32x4.replaceLane`, R251
  | i64x2ReplaceLane (d : Ident) (a : VOperand) (i : Fin 2) (x : Operand (BitVec 64))  -- `i64x2.replaceLane`, R252
  | f32x4ReplaceLane (d : Ident) (a : VOperand) (i : Fin 4) (x : Operand (BitVec 32))  -- `f32x4.replaceLane`, R253
  | f64x2ReplaceLane (d : Ident) (a : VOperand) (i : Fin 2) (x : Operand (BitVec 64))  -- `f64x2.replaceLane`, R254
  | v8x16Select (d : Ident) (s : Operand (Lanes Bool 16)) (t f : VOperand)  -- `v8x16.select`, R255
  | v16x8Select (d : Ident) (s : Operand (Lanes Bool 8)) (t f : VOperand)  -- `v16x8.select`, R256
  | v32x4Select (d : Ident) (s : Operand (Lanes Bool 4)) (t f : VOperand)  -- `v32x4.select`, R257
  | v64x2Select (d : Ident) (s : Operand (Lanes Bool 2)) (t f : VOperand)  -- `v64x2.select`, R258
  | v8x16Swizzle (d : Ident) (a : VOperand) (s : Lanes (Fin 16) 16)  -- `v8x16.swizzle`, R259
  | v16x8Swizzle (d : Ident) (a : VOperand) (s : Lanes (Fin 8) 8)  -- `v16x8.swizzle`, R260
  | v32x4Swizzle (d : Ident) (a : VOperand) (s : Lanes (Fin 4) 4)  -- `v32x4.swizzle`, R261
  | v64x2Swizzle (d : Ident) (a : VOperand) (s : Lanes (Fin 2) 2)  -- `v64x2.swizzle`, R262
  | v8x16Shuffle (d : Ident) (a b : VOperand) (s : Lanes (Fin 32) 16)  -- `v8x16.shuffle`, R263
  | v16x8Shuffle (d : Ident) (a b : VOperand) (s : Lanes (Fin 16) 8)  -- `v16x8.shuffle`, R264
  | v32x4Shuffle (d : Ident) (a b : VOperand) (s : Lanes (Fin 8) 4)  -- `v32x4.shuffle`, R265
  | v64x2Shuffle (d : Ident) (a b : VOperand) (s : Lanes (Fin 4) 2)  -- `v64x2.shuffle`, R266
  | i8x16Add (d : Ident) (a b : VOperand)  -- `i8x16.add`, R280
  | i16x8Add (d : Ident) (a b : VOperand)  -- `i16x8.add`, R281
  | i32x4Add (d : Ident) (a b : VOperand)  -- `i32x4.add`, R282
  | i64x2Add (d : Ident) (a b : VOperand)  -- `i64x2.add`, R283
  | i8x16Sub (d : Ident) (a b : VOperand)  -- `i8x16.sub`, R284
  | i16x8Sub (d : Ident) (a b : VOperand)  -- `i16x8.sub`, R285
  | i32x4Sub (d : Ident) (a b : VOperand)  -- `i32x4.sub`, R286
  | i64x2Sub (d : Ident) (a b : VOperand)  -- `i64x2.sub`, R287
  | i8x16Mul (d : Ident) (a b : VOperand)  -- `i8x16.mul`, R288
  | i16x8Mul (d : Ident) (a b : VOperand)  -- `i16x8.mul`, R289
  | i32x4Mul (d : Ident) (a b : VOperand)  -- `i32x4.mul`, R290
  | i64x2Mul (d : Ident) (a b : VOperand)  -- `i64x2.mul`, R291
  | i8x16Neg (d : Ident) (a : VOperand)  -- `i8x16.neg`, R292
  | i16x8Neg (d : Ident) (a : VOperand)  -- `i16x8.neg`, R293
  | i32x4Neg (d : Ident) (a : VOperand)  -- `i32x4.neg`, R294
  | i64x2Neg (d : Ident) (a : VOperand)  -- `i64x2.neg`, R295
  | s8x16AddSaturate (d : Ident) (a b : VOperand)  -- `s8x16.addSaturate`, R296
  | s16x8AddSaturate (d : Ident) (a b : VOperand)  -- `s16x8.addSaturate`, R297
  | u8x16AddSaturate (d : Ident) (a b : VOperand)  -- `u8x16.addSaturate`, R298
  | u16x8AddSaturate (d : Ident) (a b : VOperand)  -- `u16x8.addSaturate`, R299
  | s8x16SubSaturate (d : Ident) (a b : VOperand)  -- `s8x16.subSaturate`, R300
  | s16x8SubSaturate (d : Ident) (a b : VOperand)  -- `s16x8.subSaturate`, R301
  | u8x16SubSaturate (d : Ident) (a b : VOperand)  -- `u8x16.subSaturate`, R302
  | u16x8SubSaturate (d : Ident) (a b : VOperand)  -- `u16x8.subSaturate`, R303
  | i8x16ShiftLeftByScalar (d : Ident) (a : VOperand) (y : Operand (BitVec 8))  -- `i8x16.shiftLeftByScalar`, R304
  | i16x8ShiftLeftByScalar (d : Ident) (a : VOperand) (y : Operand (BitVec 8))  -- `i16x8.shiftLeftByScalar`, R305
  | i32x4ShiftLeftByScalar (d : Ident) (a : VOperand) (y : Operand (BitVec 8))  -- `i32x4.shiftLeftByScalar`, R306
  | i64x2ShiftLeftByScalar (d : Ident) (a : VOperand) (y : Operand (BitVec 8))  -- `i64x2.shiftLeftByScalar`, R307
  | s8x16ShiftRightByScalar (d : Ident) (a : VOperand) (y : Operand (BitVec 8))  -- `s8x16.shiftRightByScalar`, R308
  | s16x8ShiftRightByScalar (d : Ident) (a : VOperand) (y : Operand (BitVec 8))  -- `s16x8.shiftRightByScalar`, R309
  | s32x4ShiftRightByScalar (d : Ident) (a : VOperand) (y : Operand (BitVec 8))  -- `s32x4.shiftRightByScalar`, R310
  | s64x2ShiftRightByScalar (d : Ident) (a : VOperand) (y : Operand (BitVec 8))  -- `s64x2.shiftRightByScalar`, R311
  | u8x16ShiftRightByScalar (d : Ident) (a : VOperand) (y : Operand (BitVec 8))  -- `u8x16.shiftRightByScalar`, R312
  | u16x8ShiftRightByScalar (d : Ident) (a : VOperand) (y : Operand (BitVec 8))  -- `u16x8.shiftRightByScalar`, R313
  | u32x4ShiftRightByScalar (d : Ident) (a : VOperand) (y : Operand (BitVec 8))  -- `u32x4.shiftRightByScalar`, R314
  | u64x2ShiftRightByScalar (d : Ident) (a : VOperand) (y : Operand (BitVec 8))  -- `u64x2.shiftRightByScalar`, R315
  | b8x16And (d : Ident) (a b : Operand (Lanes Bool 16))  -- `b8x16.and`, R327
  | b16x8And (d : Ident) (a b : Operand (Lanes Bool 8))  -- `b16x8.and`, R328
  | b32x4And (d : Ident) (a b : Operand (Lanes Bool 4))  -- `b32x4.and`, R329
  | b64x2And (d : Ident) (a b : Operand (Lanes Bool 2))  -- `b64x2.and`, R330
  | b8x16Or (d : Ident) (a b : Operand (Lanes Bool 16))  -- `b8x16.or`, R331
  | b16x8Or (d : Ident) (a b : Operand (Lanes Bool 8))  -- `b16x8.or`, R332
  | b32x4Or (d : Ident) (a b : Operand (Lanes Bool 4))  -- `b32x4.or`, R333
  | b64x2Or (d : Ident) (a b : Operand (Lanes Bool 2))  -- `b64x2.or`, R334
  | b8x16Xor (d : Ident) (a b : Operand (Lanes Bool 16))  -- `b8x16.xor`, R335
  | b16x8Xor (d : Ident) (a b : Operand (Lanes Bool 8))  -- `b16x8.xor`, R336
  | b32x4Xor (d : Ident) (a b : Operand (Lanes Bool 4))  -- `b32x4.xor`, R337
  | b64x2Xor (d : Ident) (a b : Operand (Lanes Bool 2))  -- `b64x2.xor`, R338
  | b8x16Not (d : Ident) (a : Operand (Lanes Bool 16))  -- `b8x16.not`, R339
  | b16x8Not (d : Ident) (a : Operand (Lanes Bool 8))  -- `b16x8.not`, R340
  | b32x4Not (d : Ident) (a : Operand (Lanes Bool 4))  -- `b32x4.not`, R341
  | b64x2Not (d : Ident) (a : Operand (Lanes Bool 2))  -- `b64x2.not`, R342
  | v128And (d : Ident) (a b : VOperand)  -- `v128.and`, R343
  | v128Or (d : Ident) (a b : VOperand)  -- `v128.or`, R344
  | v128Xor (d : Ident) (a b : VOperand)  -- `v128.xor`, R345
  | v128Not (d : Ident) (a : VOperand)  -- `v128.not`, R346
  | b8x16AnyTrue (d : Ident) (a : Operand (Lanes Bool 16))  -- `b8x16.anyTrue`, R347
  | b16x8AnyTrue (d : Ident) (a : Operand (Lanes Bool 8))  -- `b16x8.anyTrue`, R348
  | b32x4AnyTrue (d : Ident) (a : Operand (Lanes Bool 4))  -- `b32x4.anyTrue`, R349
  | b64x2AnyTrue (d : Ident) (a : Operand (Lanes Bool 2))  -- `b64x2.anyTrue`, R350
  | b8x16AllTrue (d : Ident) (a : Operand (Lanes Bool 16))  -- `b8x16.allTrue`, R351
  | b16x8AllTrue (d : Ident) (a : Operand (Lanes Bool 8))  -- `b16x8.allTrue`, R352
  | b32x4AllTrue (d : Ident) (a : Operand (Lanes Bool 4))  -- `b32x4.allTrue`, R353
  | b64x2AllTrue (d : Ident) (a : Operand (Lanes Bool 2))  -- `b64x2.allTrue`, R354
  | i8x16Equal (d : Ident) (a b : VOperand)  -- `i8x16.equal`, R370
  | i16x8Equal (d : Ident) (a b : VOperand)  -- `i16x8.equal`, R371
  | i32x4Equal (d : Ident) (a b : VOperand)  -- `i32x4.equal`, R372
  | i64x2Equal (d : Ident) (a b : VOperand)  -- `i64x2.equal`, R373
  | f32x4Equal (d : Ident) (a b : VOperand)  -- `f32x4.equal`, R374
  | f64x2Equal (d : Ident) (a b : VOperand)  -- `f64x2.equal`, R375
  | i8x16NotEqual (d : Ident) (a b : VOperand)  -- `i8x16.notEqual`, R376
  | i16x8NotEqual (d : Ident) (a b : VOperand)  -- `i16x8.notEqual`, R377
  | i32x4NotEqual (d : Ident) (a b : VOperand)  -- `i32x4.notEqual`, R378
  | i64x2NotEqual (d : Ident) (a b : VOperand)  -- `i64x2.notEqual`, R379
  | f32x4NotEqual (d : Ident) (a b : VOperand)  -- `f32x4.notEqual`, R380
  | f64x2NotEqual (d : Ident) (a b : VOperand)  -- `f64x2.notEqual`, R381
  | s8x16LessThan (d : Ident) (a b : VOperand)  -- `s8x16.lessThan`, R382
  | s16x8LessThan (d : Ident) (a b : VOperand)  -- `s16x8.lessThan`, R383
  | s32x4LessThan (d : Ident) (a b : VOperand)  -- `s32x4.lessThan`, R384
  | s64x2LessThan (d : Ident) (a b : VOperand)  -- `s64x2.lessThan`, R385
  | u8x16LessThan (d : Ident) (a b : VOperand)  -- `u8x16.lessThan`, R386
  | u16x8LessThan (d : Ident) (a b : VOperand)  -- `u16x8.lessThan`, R387
  | u32x4LessThan (d : Ident) (a b : VOperand)  -- `u32x4.lessThan`, R388
  | u64x2LessThan (d : Ident) (a b : VOperand)  -- `u64x2.lessThan`, R389
  | f32x4LessThan (d : Ident) (a b : VOperand)  -- `f32x4.lessThan`, R390
  | f64x2LessThan (d : Ident) (a b : VOperand)  -- `f64x2.lessThan`, R391
  | s8x16LessThanOrEqual (d : Ident) (a b : VOperand)  -- `s8x16.lessThanOrEqual`, R392
  | s16x8LessThanOrEqual (d : Ident) (a b : VOperand)  -- `s16x8.lessThanOrEqual`, R393
  | s32x4LessThanOrEqual (d : Ident) (a b : VOperand)  -- `s32x4.lessThanOrEqual`, R394
  | s64x2LessThanOrEqual (d : Ident) (a b : VOperand)  -- `s64x2.lessThanOrEqual`, R395
  | u8x16LessThanOrEqual (d : Ident) (a b : VOperand)  -- `u8x16.lessThanOrEqual`, R396
  | u16x8LessThanOrEqual (d : Ident) (a b : VOperand)  -- `u16x8.lessThanOrEqual`, R397
  | u32x4LessThanOrEqual (d : Ident) (a b : VOperand)  -- `u32x4.lessThanOrEqual`, R398
  | u64x2LessThanOrEqual (d : Ident) (a b : VOperand)  -- `u64x2.lessThanOrEqual`, R399
  | f32x4LessThanOrEqual (d : Ident) (a b : VOperand)  -- `f32x4.lessThanOrEqual`, R400
  | f64x2LessThanOrEqual (d : Ident) (a b : VOperand)  -- `f64x2.lessThanOrEqual`, R401
  | s8x16GreaterThan (d : Ident) (a b : VOperand)  -- `s8x16.greaterThan`, R402
  | s16x8GreaterThan (d : Ident) (a b : VOperand)  -- `s16x8.greaterThan`, R403
  | s32x4GreaterThan (d : Ident) (a b : VOperand)  -- `s32x4.greaterThan`, R404
  | s64x2GreaterThan (d : Ident) (a b : VOperand)  -- `s64x2.greaterThan`, R405
  | u8x16GreaterThan (d : Ident) (a b : VOperand)  -- `u8x16.greaterThan`, R406
  | u16x8GreaterThan (d : Ident) (a b : VOperand)  -- `u16x8.greaterThan`, R407
  | u32x4GreaterThan (d : Ident) (a b : VOperand)  -- `u32x4.greaterThan`, R408
  | u64x2GreaterThan (d : Ident) (a b : VOperand)  -- `u64x2.greaterThan`, R409
  | f32x4GreaterThan (d : Ident) (a b : VOperand)  -- `f32x4.greaterThan`, R410
  | f64x2GreaterThan (d : Ident) (a b : VOperand)  -- `f64x2.greaterThan`, R411
  | s8x16GreaterThanOrEqual (d : Ident) (a b : VOperand)  -- `s8x16.greaterThanOrEqual`, R412
  | s16x8GreaterThanOrEqual (d : Ident) (a b : VOperand)  -- `s16x8.greaterThanOrEqual`, R413
  | s32x4GreaterThanOrEqual (d : Ident) (a b : VOperand)  -- `s32x4.greaterThanOrEqual`, R414
  | s64x2GreaterThanOrEqual (d : Ident) (a b : VOperand)  -- `s64x2.greaterThanOrEqual`, R415
  | u8x16GreaterThanOrEqual (d : Ident) (a b : VOperand)  -- `u8x16.greaterThanOrEqual`, R416
  | u16x8GreaterThanOrEqual (d : Ident) (a b : VOperand)  -- `u16x8.greaterThanOrEqual`, R417
  | u32x4GreaterThanOrEqual (d : Ident) (a b : VOperand)  -- `u32x4.greaterThanOrEqual`, R418
  | u64x2GreaterThanOrEqual (d : Ident) (a b : VOperand)  -- `u64x2.greaterThanOrEqual`, R419
  | f32x4GreaterThanOrEqual (d : Ident) (a b : VOperand)  -- `f32x4.greaterThanOrEqual`, R420
  | f64x2GreaterThanOrEqual (d : Ident) (a b : VOperand)  -- `f64x2.greaterThanOrEqual`, R421
  | v8x16Load (d mem : Ident) (addr : Nat)  -- `v8x16.load`, R435
  | v16x8Load (d mem : Ident) (addr : Nat)  -- `v16x8.load`, R436
  | v32x4Load (d mem : Ident) (addr : Nat)  -- `v32x4.load`, R437
  | v64x2Load (d mem : Ident) (addr : Nat)  -- `v64x2.load`, R438
  | v8x16Store (mem : Ident) (addr : Nat) (data : VOperand)  -- `v8x16.store`, R439
  | v16x8Store (mem : Ident) (addr : Nat) (data : VOperand)  -- `v16x8.store`, R440
  | v32x4Store (mem : Ident) (addr : Nat) (data : VOperand)  -- `v32x4.store`, R441
  | v64x2Store (mem : Ident) (addr : Nat) (data : VOperand)  -- `v64x2.store`, R442
  | v32x4Load1 (d mem : Ident) (addr : Nat)  -- `v32x4.load1`, R443
  | v32x4Load2 (d mem : Ident) (addr : Nat)  -- `v32x4.load2`, R444
  | v32x4Load3 (d mem : Ident) (addr : Nat)  -- `v32x4.load3`, R445
  | v32x4Store1 (mem : Ident) (addr : Nat) (data : VOperand)  -- `v32x4.store1`, R446
  | v32x4Store2 (mem : Ident) (addr : Nat) (data : VOperand)  -- `v32x4.store2`, R447
  | v32x4Store3 (mem : Ident) (addr : Nat) (data : VOperand)  -- `v32x4.store3`, R448
  | f32x4Neg (d : Ident) (a : VOperand)  -- `f32x4.neg`, R470
  | f64x2Neg (d : Ident) (a : VOperand)  -- `f64x2.neg`, R471
  | f32x4Abs (d : Ident) (a : VOperand)  -- `f32x4.abs`, R472
  | f64x2Abs (d : Ident) (a : VOperand)  -- `f64x2.abs`, R473
  | f32x4Min (d : Ident) (a b : VOperand)  -- `f32x4.min`, R474
  | f64x2Min (d : Ident) (a b : VOperand)  -- `f64x2.min`, R475
  | f32x4Max (d : Ident) (a b : VOperand)  -- `f32x4.max`, R476
  | f64x2Max (d : Ident) (a b : VOperand)  -- `f64x2.max`, R477
  | f32x4MinNum (d : Ident) (a b : VOperand)  -- `f32x4.minNum`, R478
  | f64x2MinNum (d : Ident) (a b : VOperand)  -- `f64x2.minNum`, R479
  | f32x4MaxNum (d : Ident) (a b : VOperand)  -- `f32x4.maxNum`, R480
  | f64x2MaxNum (d : Ident) (a b : VOperand)  -- `f64x2.maxNum`, R481
  | f32x4Add (d : Ident) (a b : VOperand) (rm : RoundingMode)  -- `f32x4.add`, R510
  | f64x2Add (d : Ident) (a b : VOperand) (rm : RoundingMode)  -- `f64x2.add`, R511
  | f32x4Sub (d : Ident) (a b : VOperand) (rm : RoundingMode)  -- `f32x4.sub`, R512
  | f64x2Sub (d : Ident) (a b : VOperand) (rm : RoundingMode)  -- `f64x2.sub`, R513
  | f32x4Div (d : Ident) (a b : VOperand) (rm : RoundingMode)  -- `f32x4.div`, R514
  | f64x2Div (d : Ident) (a b : VOperand) (rm : RoundingMode)  -- `f64x2.div`, R515
  | f32x4Mul (d : Ident) (a b : VOperand) (rm : RoundingMode)  -- `f32x4.mul`, R516
  | f64x2Mul (d : Ident) (a b : VOperand) (rm : RoundingMode)  -- `f64x2.mul`, R517
  | f32x4Sqrt (d : Ident) (a : VOperand) (rm : RoundingMode)  -- `f32x4.sqrt`, R518
  | f64x2Sqrt (d : Ident) (a : VOperand) (rm : RoundingMode)  -- `f64x2.sqrt`, R519
  | f32x4ReciprocalApproximation (d : Ident) (a : VOperand)  -- `f32x4.reciprocalApproximation`, R520
  | f64x2ReciprocalApproximation (d : Ident) (a : VOperand)  -- `f64x2.reciprocalApproximation`, R521
  | f32x4ReciprocalSqrtApproximation (d : Ident) (a : VOperand)  -- `f32x4.reciprocalSqrtApproximation`, R522
  | f64x2ReciprocalSqrtApproximation (d : Ident) (a : VOperand)  -- `f64x2.reciprocalSqrtApproximation`, R523
  | f32x4FromSignedInt (d : Ident) (a : VOperand) (rm : RoundingMode)  -- `f32x4.fromSignedInt`, R553
  | f64x2FromSignedInt (d : Ident) (a : VOperand) (rm : RoundingMode)  -- `f64x2.fromSignedInt`, R554
  | f32x4FromUnsignedInt (d : Ident) (a : VOperand) (rm : RoundingMode)  -- `f32x4.fromUnsignedInt`, R555
  | f64x2FromUnsignedInt (d : Ident) (a : VOperand) (rm : RoundingMode)  -- `f64x2.fromUnsignedInt`, R556
  | s32x4FromFloat (d1 d2 : Ident) (a : VOperand)  -- `s32x4.fromFloat`, R557
  | s64x2FromFloat (d1 d2 : Ident) (a : VOperand)  -- `s64x2.fromFloat`, R558
  | u32x4FromFloat (d1 d2 : Ident) (a : VOperand)  -- `u32x4.fromFloat`, R559
  | u64x2FromFloat (d1 d2 : Ident) (a : VOperand)  -- `u64x2.fromFloat`, R560
deriving DecidableEq, Repr

end Sys2Proof
end

