-- ==== Sys2Proof/Machine/Signature.lean ====
section
/-! DEFINITION. The typed signature of every operation (30_encoding.md R103) and the statement each instruction is, as one
table. The encoder, the checks of well-formedness and the type analysis of a program all read this table. -/

namespace Sys2Proof

/-- The 23 prefixes (30_encoding.md R101). -/
inductive Prefix where
  | v128 | v8x16 | v16x8 | v32x4 | v64x2 | i8x16 | i16x8 | i32x4
  | i64x2 | s8x16 | s16x8 | s32x4 | s64x2 | u8x16 | u16x8 | u32x4
  | u64x2 | f32x4 | f64x2 | b8x16 | b16x8 | b32x4 | b64x2
deriving DecidableEq, Repr

/-- The 47 operation names (R101). -/
inductive OpName where
  | build | splat | extractLane | replaceLane | select | swizzle
  | shuffle | add | sub | mul | neg | addSaturate
  | subSaturate | shiftLeftByScalar | shiftRightByScalar | and | or | xor
  | not | anyTrue | allTrue | equal | notEqual | lessThan
  | lessThanOrEqual | greaterThan | greaterThanOrEqual | load | store | load1
  | load2 | load3 | store1 | store2 | store3 | abs
  | min | max | minNum | maxNum | div | sqrt
  | reciprocalApproximation | reciprocalSqrtApproximation | fromSignedInt | fromUnsignedInt | fromFloat
deriving DecidableEq, Repr

/-- A mnemonic `<S>.<Op>` (R101). Of the pairs only 216 are operations (R112). -/
structure Mnemonic where
  pre : Prefix
  op : OpName
deriving DecidableEq, Repr

/-- The spelling of a prefix. -/
def Prefix.text : Prefix → Text
  | .v128 => ['v', '1', '2', '8']
  | .v8x16 => ['v', '8', 'x', '1', '6']
  | .v16x8 => ['v', '1', '6', 'x', '8']
  | .v32x4 => ['v', '3', '2', 'x', '4']
  | .v64x2 => ['v', '6', '4', 'x', '2']
  | .i8x16 => ['i', '8', 'x', '1', '6']
  | .i16x8 => ['i', '1', '6', 'x', '8']
  | .i32x4 => ['i', '3', '2', 'x', '4']
  | .i64x2 => ['i', '6', '4', 'x', '2']
  | .s8x16 => ['s', '8', 'x', '1', '6']
  | .s16x8 => ['s', '1', '6', 'x', '8']
  | .s32x4 => ['s', '3', '2', 'x', '4']
  | .s64x2 => ['s', '6', '4', 'x', '2']
  | .u8x16 => ['u', '8', 'x', '1', '6']
  | .u16x8 => ['u', '1', '6', 'x', '8']
  | .u32x4 => ['u', '3', '2', 'x', '4']
  | .u64x2 => ['u', '6', '4', 'x', '2']
  | .f32x4 => ['f', '3', '2', 'x', '4']
  | .f64x2 => ['f', '6', '4', 'x', '2']
  | .b8x16 => ['b', '8', 'x', '1', '6']
  | .b16x8 => ['b', '1', '6', 'x', '8']
  | .b32x4 => ['b', '3', '2', 'x', '4']
  | .b64x2 => ['b', '6', '4', 'x', '2']

/-- The spelling of an operation name. -/
def OpName.text : OpName → Text
  | .build => ['b', 'u', 'i', 'l', 'd']
  | .splat => ['s', 'p', 'l', 'a', 't']
  | .extractLane => ['e', 'x', 't', 'r', 'a', 'c', 't', 'L', 'a', 'n', 'e']
  | .replaceLane => ['r', 'e', 'p', 'l', 'a', 'c', 'e', 'L', 'a', 'n', 'e']
  | .select => ['s', 'e', 'l', 'e', 'c', 't']
  | .swizzle => ['s', 'w', 'i', 'z', 'z', 'l', 'e']
  | .shuffle => ['s', 'h', 'u', 'f', 'f', 'l', 'e']
  | .add => ['a', 'd', 'd']
  | .sub => ['s', 'u', 'b']
  | .mul => ['m', 'u', 'l']
  | .neg => ['n', 'e', 'g']
  | .addSaturate => ['a', 'd', 'd', 'S', 'a', 't', 'u', 'r', 'a', 't', 'e']
  | .subSaturate => ['s', 'u', 'b', 'S', 'a', 't', 'u', 'r', 'a', 't', 'e']
  | .shiftLeftByScalar => ['s', 'h', 'i', 'f', 't', 'L', 'e', 'f', 't', 'B', 'y', 'S', 'c', 'a', 'l', 'a', 'r']
  | .shiftRightByScalar => ['s', 'h', 'i', 'f', 't', 'R', 'i', 'g', 'h', 't', 'B', 'y', 'S', 'c', 'a', 'l', 'a', 'r']
  | .and => ['a', 'n', 'd']
  | .or => ['o', 'r']
  | .xor => ['x', 'o', 'r']
  | .not => ['n', 'o', 't']
  | .anyTrue => ['a', 'n', 'y', 'T', 'r', 'u', 'e']
  | .allTrue => ['a', 'l', 'l', 'T', 'r', 'u', 'e']
  | .equal => ['e', 'q', 'u', 'a', 'l']
  | .notEqual => ['n', 'o', 't', 'E', 'q', 'u', 'a', 'l']
  | .lessThan => ['l', 'e', 's', 's', 'T', 'h', 'a', 'n']
  | .lessThanOrEqual => ['l', 'e', 's', 's', 'T', 'h', 'a', 'n', 'O', 'r', 'E', 'q', 'u', 'a', 'l']
  | .greaterThan => ['g', 'r', 'e', 'a', 't', 'e', 'r', 'T', 'h', 'a', 'n']
  | .greaterThanOrEqual => ['g', 'r', 'e', 'a', 't', 'e', 'r', 'T', 'h', 'a', 'n', 'O', 'r', 'E', 'q', 'u', 'a', 'l']
  | .load => ['l', 'o', 'a', 'd']
  | .store => ['s', 't', 'o', 'r', 'e']
  | .load1 => ['l', 'o', 'a', 'd', '1']
  | .load2 => ['l', 'o', 'a', 'd', '2']
  | .load3 => ['l', 'o', 'a', 'd', '3']
  | .store1 => ['s', 't', 'o', 'r', 'e', '1']
  | .store2 => ['s', 't', 'o', 'r', 'e', '2']
  | .store3 => ['s', 't', 'o', 'r', 'e', '3']
  | .abs => ['a', 'b', 's']
  | .min => ['m', 'i', 'n']
  | .max => ['m', 'a', 'x']
  | .minNum => ['m', 'i', 'n', 'N', 'u', 'm']
  | .maxNum => ['m', 'a', 'x', 'N', 'u', 'm']
  | .div => ['d', 'i', 'v']
  | .sqrt => ['s', 'q', 'r', 't']
  | .reciprocalApproximation => ['r', 'e', 'c', 'i', 'p', 'r', 'o', 'c', 'a', 'l', 'A', 'p', 'p', 'r', 'o', 'x', 'i', 'm', 'a', 't', 'i', 'o', 'n']
  | .reciprocalSqrtApproximation => ['r', 'e', 'c', 'i', 'p', 'r', 'o', 'c', 'a', 'l', 'S', 'q', 'r', 't', 'A', 'p', 'p', 'r', 'o', 'x', 'i', 'm', 'a', 't', 'i', 'o', 'n']
  | .fromSignedInt => ['f', 'r', 'o', 'm', 'S', 'i', 'g', 'n', 'e', 'd', 'I', 'n', 't']
  | .fromUnsignedInt => ['f', 'r', 'o', 'm', 'U', 'n', 's', 'i', 'g', 'n', 'e', 'd', 'I', 'n', 't']
  | .fromFloat => ['f', 'r', 'o', 'm', 'F', 'l', 'o', 'a', 't']

/-- The spelling of a mnemonic: prefix, dot, operation name. -/
def Mnemonic.text (m : Mnemonic) : Text := m.pre.text ++ '.' :: m.op.text

/-- All the prefixes. -/
def Prefix.all : List Prefix :=
  [.v128, .v8x16, .v16x8, .v32x4, .v64x2, .i8x16, .i16x8, .i32x4,
   .i64x2, .s8x16, .s16x8, .s32x4, .s64x2, .u8x16, .u16x8, .u32x4,
   .u64x2, .f32x4, .f64x2, .b8x16, .b16x8, .b32x4, .b64x2]

/-- All the operation names. -/
def OpName.all : List OpName :=
  [.build, .splat, .extractLane, .replaceLane, .select, .swizzle,
   .shuffle, .add, .sub, .mul, .neg, .addSaturate,
   .subSaturate, .shiftLeftByScalar, .shiftRightByScalar, .and, .or, .xor,
   .not, .anyTrue, .allTrue, .equal, .notEqual, .lessThan,
   .lessThanOrEqual, .greaterThan, .greaterThanOrEqual, .load, .store, .load1,
   .load2, .load3, .store1, .store2, .store3, .abs,
   .min, .max, .minNum, .maxNum, .div, .sqrt,
   .reciprocalApproximation, .reciprocalSqrtApproximation, .fromSignedInt, .fromUnsignedInt, .fromFloat]

/-- One operand of a statement with its type (30_encoding.md R104). A `v128` operand, a boolean vector, a scalar and a
boolean are slot names or literals; the rest stand in the statement as literals. -/
inductive Arg where
  | vector (o : VOperand)
  | mask {n : Nat} (τ : Ty) (o : Operand (Lanes Bool n))
  | scalar {w : Nat} (τ : Ty) (o : Operand (BitVec w))
  | boolean (o : Operand Bool)
  | scalars {w : Nat} (τ : Ty) (os : List (Operand (BitVec w)))
  | booleans (os : List (Operand Bool))
  | index (i : Nat)
  | indices (is : List Nat)
  | rounding (rm : RoundingMode)
  | buffer (m : Ident)
  | offset (addr : Nat)

/-- A statement: its mnemonic, its destination slots with the types of their results, its operands in signature order. -/
structure Statement where
  mnemonic : Mnemonic
  dests : List (Ident × Ty)
  args : List Arg

/-- The slot an operand names, if it names one, with the type asked for. -/
def Operand.reads {lit : Type} (τ : Ty) : Operand lit → List (Ident × Ty)
  | .slot x => [(x, τ)]
  | .lit _ => []

/-- The slots an operand of a statement reads, in order, with the types asked for. -/
def Arg.reads : Arg → List (Ident × Ty)
  | .vector o => o.reads .v128
  | .mask τ o => o.reads τ
  | .scalar τ o => o.reads τ
  | .boolean o => o.reads .boolean
  | .scalars τ os => os.flatMap (Operand.reads τ)
  | .booleans os => os.flatMap (Operand.reads .boolean)
  | .index _ => []
  | .indices _ => []
  | .rounding _ => []
  | .buffer _ => []
  | .offset _ => []

/-- The Buffer an operand names. -/
def Arg.buffer? : Arg → Option Ident
  | .buffer m => some m
  | .vector _ | .mask _ _ | .scalar _ _ | .boolean _ | .scalars _ _ | .booleans _ | .index _ | .indices _ | .rounding _
  | .offset _ => none

/-- The ByteOffset an operand gives. -/
def Arg.offset? : Arg → Option Nat
  | .offset a => some a
  | .vector _ | .mask _ _ | .scalar _ _ | .boolean _ | .scalars _ _ | .booleans _ | .index _ | .indices _ | .rounding _
  | .buffer _ => none

/-- The slots a statement reads, in signature order (R109). -/
def Statement.reads (st : Statement) : List (Ident × Ty) := st.args.flatMap Arg.reads

/-- The Buffer a statement names: only the 14 loads and stores name one (10_state.md R49). -/
def Statement.buffer? (st : Statement) : Option Ident := st.args.findSome? Arg.buffer?

/-- The ByteOffset of a load or store. -/
def Statement.offset? (st : Statement) : Option Nat := st.args.findSome? Arg.offset?

/-- An index list as an operand. -/
def indices {n k : Nat} (s : Lanes (Fin n) k) : Arg := .indices (s.toList.map Fin.val)

/-- The statement an instruction is: mnemonics of R111, signatures of R103. -/
def Instr.statement : Instr → Statement
  | .b8x16Build d x => ⟨⟨.b8x16, .build⟩, [(d, .b8x16)], [.booleans x.toList]⟩
  | .b16x8Build d x => ⟨⟨.b16x8, .build⟩, [(d, .b16x8)], [.booleans x.toList]⟩
  | .b32x4Build d x => ⟨⟨.b32x4, .build⟩, [(d, .b32x4)], [.booleans x.toList]⟩
  | .b64x2Build d x => ⟨⟨.b64x2, .build⟩, [(d, .b64x2)], [.booleans x.toList]⟩
  | .i8x16Build d x => ⟨⟨.i8x16, .build⟩, [(d, .v128)], [.scalars .i8 x.toList]⟩
  | .i16x8Build d x => ⟨⟨.i16x8, .build⟩, [(d, .v128)], [.scalars .i16 x.toList]⟩
  | .i32x4Build d x => ⟨⟨.i32x4, .build⟩, [(d, .v128)], [.scalars .i32 x.toList]⟩
  | .i64x2Build d x => ⟨⟨.i64x2, .build⟩, [(d, .v128)], [.scalars .i64 x.toList]⟩
  | .f32x4Build d x => ⟨⟨.f32x4, .build⟩, [(d, .v128)], [.scalars .f32 x.toList]⟩
  | .f64x2Build d x => ⟨⟨.f64x2, .build⟩, [(d, .v128)], [.scalars .f64 x.toList]⟩
  | .b8x16Splat d x => ⟨⟨.b8x16, .splat⟩, [(d, .b8x16)], [.boolean x]⟩
  | .b16x8Splat d x => ⟨⟨.b16x8, .splat⟩, [(d, .b16x8)], [.boolean x]⟩
  | .b32x4Splat d x => ⟨⟨.b32x4, .splat⟩, [(d, .b32x4)], [.boolean x]⟩
  | .b64x2Splat d x => ⟨⟨.b64x2, .splat⟩, [(d, .b64x2)], [.boolean x]⟩
  | .i8x16Splat d x => ⟨⟨.i8x16, .splat⟩, [(d, .v128)], [.scalar .i8 x]⟩
  | .i16x8Splat d x => ⟨⟨.i16x8, .splat⟩, [(d, .v128)], [.scalar .i16 x]⟩
  | .i32x4Splat d x => ⟨⟨.i32x4, .splat⟩, [(d, .v128)], [.scalar .i32 x]⟩
  | .i64x2Splat d x => ⟨⟨.i64x2, .splat⟩, [(d, .v128)], [.scalar .i64 x]⟩
  | .f32x4Splat d x => ⟨⟨.f32x4, .splat⟩, [(d, .v128)], [.scalar .f32 x]⟩
  | .f64x2Splat d x => ⟨⟨.f64x2, .splat⟩, [(d, .v128)], [.scalar .f64 x]⟩
  | .b8x16ExtractLane d a i => ⟨⟨.b8x16, .extractLane⟩, [(d, .boolean)], [.mask .b8x16 a, .index i.val]⟩
  | .b16x8ExtractLane d a i => ⟨⟨.b16x8, .extractLane⟩, [(d, .boolean)], [.mask .b16x8 a, .index i.val]⟩
  | .b32x4ExtractLane d a i => ⟨⟨.b32x4, .extractLane⟩, [(d, .boolean)], [.mask .b32x4 a, .index i.val]⟩
  | .b64x2ExtractLane d a i => ⟨⟨.b64x2, .extractLane⟩, [(d, .boolean)], [.mask .b64x2 a, .index i.val]⟩
  | .i8x16ExtractLane d a i => ⟨⟨.i8x16, .extractLane⟩, [(d, .i8)], [.vector a, .index i.val]⟩
  | .i16x8ExtractLane d a i => ⟨⟨.i16x8, .extractLane⟩, [(d, .i16)], [.vector a, .index i.val]⟩
  | .i32x4ExtractLane d a i => ⟨⟨.i32x4, .extractLane⟩, [(d, .i32)], [.vector a, .index i.val]⟩
  | .i64x2ExtractLane d a i => ⟨⟨.i64x2, .extractLane⟩, [(d, .i64)], [.vector a, .index i.val]⟩
  | .f32x4ExtractLane d a i => ⟨⟨.f32x4, .extractLane⟩, [(d, .f32)], [.vector a, .index i.val]⟩
  | .f64x2ExtractLane d a i => ⟨⟨.f64x2, .extractLane⟩, [(d, .f64)], [.vector a, .index i.val]⟩
  | .b8x16ReplaceLane d a i x => ⟨⟨.b8x16, .replaceLane⟩, [(d, .b8x16)], [.mask .b8x16 a, .index i.val, .boolean x]⟩
  | .b16x8ReplaceLane d a i x => ⟨⟨.b16x8, .replaceLane⟩, [(d, .b16x8)], [.mask .b16x8 a, .index i.val, .boolean x]⟩
  | .b32x4ReplaceLane d a i x => ⟨⟨.b32x4, .replaceLane⟩, [(d, .b32x4)], [.mask .b32x4 a, .index i.val, .boolean x]⟩
  | .b64x2ReplaceLane d a i x => ⟨⟨.b64x2, .replaceLane⟩, [(d, .b64x2)], [.mask .b64x2 a, .index i.val, .boolean x]⟩
  | .i8x16ReplaceLane d a i x => ⟨⟨.i8x16, .replaceLane⟩, [(d, .v128)], [.vector a, .index i.val, .scalar .i8 x]⟩
  | .i16x8ReplaceLane d a i x => ⟨⟨.i16x8, .replaceLane⟩, [(d, .v128)], [.vector a, .index i.val, .scalar .i16 x]⟩
  | .i32x4ReplaceLane d a i x => ⟨⟨.i32x4, .replaceLane⟩, [(d, .v128)], [.vector a, .index i.val, .scalar .i32 x]⟩
  | .i64x2ReplaceLane d a i x => ⟨⟨.i64x2, .replaceLane⟩, [(d, .v128)], [.vector a, .index i.val, .scalar .i64 x]⟩
  | .f32x4ReplaceLane d a i x => ⟨⟨.f32x4, .replaceLane⟩, [(d, .v128)], [.vector a, .index i.val, .scalar .f32 x]⟩
  | .f64x2ReplaceLane d a i x => ⟨⟨.f64x2, .replaceLane⟩, [(d, .v128)], [.vector a, .index i.val, .scalar .f64 x]⟩
  | .v8x16Select d s t f => ⟨⟨.v8x16, .select⟩, [(d, .v128)], [.mask .b8x16 s, .vector t, .vector f]⟩
  | .v16x8Select d s t f => ⟨⟨.v16x8, .select⟩, [(d, .v128)], [.mask .b16x8 s, .vector t, .vector f]⟩
  | .v32x4Select d s t f => ⟨⟨.v32x4, .select⟩, [(d, .v128)], [.mask .b32x4 s, .vector t, .vector f]⟩
  | .v64x2Select d s t f => ⟨⟨.v64x2, .select⟩, [(d, .v128)], [.mask .b64x2 s, .vector t, .vector f]⟩
  | .v8x16Swizzle d a s => ⟨⟨.v8x16, .swizzle⟩, [(d, .v128)], [.vector a, indices s]⟩
  | .v16x8Swizzle d a s => ⟨⟨.v16x8, .swizzle⟩, [(d, .v128)], [.vector a, indices s]⟩
  | .v32x4Swizzle d a s => ⟨⟨.v32x4, .swizzle⟩, [(d, .v128)], [.vector a, indices s]⟩
  | .v64x2Swizzle d a s => ⟨⟨.v64x2, .swizzle⟩, [(d, .v128)], [.vector a, indices s]⟩
  | .v8x16Shuffle d a b s => ⟨⟨.v8x16, .shuffle⟩, [(d, .v128)], [.vector a, .vector b, indices s]⟩
  | .v16x8Shuffle d a b s => ⟨⟨.v16x8, .shuffle⟩, [(d, .v128)], [.vector a, .vector b, indices s]⟩
  | .v32x4Shuffle d a b s => ⟨⟨.v32x4, .shuffle⟩, [(d, .v128)], [.vector a, .vector b, indices s]⟩
  | .v64x2Shuffle d a b s => ⟨⟨.v64x2, .shuffle⟩, [(d, .v128)], [.vector a, .vector b, indices s]⟩
  | .i8x16Add d a b => ⟨⟨.i8x16, .add⟩, [(d, .v128)], [.vector a, .vector b]⟩
  | .i16x8Add d a b => ⟨⟨.i16x8, .add⟩, [(d, .v128)], [.vector a, .vector b]⟩
  | .i32x4Add d a b => ⟨⟨.i32x4, .add⟩, [(d, .v128)], [.vector a, .vector b]⟩
  | .i64x2Add d a b => ⟨⟨.i64x2, .add⟩, [(d, .v128)], [.vector a, .vector b]⟩
  | .i8x16Sub d a b => ⟨⟨.i8x16, .sub⟩, [(d, .v128)], [.vector a, .vector b]⟩
  | .i16x8Sub d a b => ⟨⟨.i16x8, .sub⟩, [(d, .v128)], [.vector a, .vector b]⟩
  | .i32x4Sub d a b => ⟨⟨.i32x4, .sub⟩, [(d, .v128)], [.vector a, .vector b]⟩
  | .i64x2Sub d a b => ⟨⟨.i64x2, .sub⟩, [(d, .v128)], [.vector a, .vector b]⟩
  | .i8x16Mul d a b => ⟨⟨.i8x16, .mul⟩, [(d, .v128)], [.vector a, .vector b]⟩
  | .i16x8Mul d a b => ⟨⟨.i16x8, .mul⟩, [(d, .v128)], [.vector a, .vector b]⟩
  | .i32x4Mul d a b => ⟨⟨.i32x4, .mul⟩, [(d, .v128)], [.vector a, .vector b]⟩
  | .i64x2Mul d a b => ⟨⟨.i64x2, .mul⟩, [(d, .v128)], [.vector a, .vector b]⟩
  | .i8x16Neg d a => ⟨⟨.i8x16, .neg⟩, [(d, .v128)], [.vector a]⟩
  | .i16x8Neg d a => ⟨⟨.i16x8, .neg⟩, [(d, .v128)], [.vector a]⟩
  | .i32x4Neg d a => ⟨⟨.i32x4, .neg⟩, [(d, .v128)], [.vector a]⟩
  | .i64x2Neg d a => ⟨⟨.i64x2, .neg⟩, [(d, .v128)], [.vector a]⟩
  | .s8x16AddSaturate d a b => ⟨⟨.s8x16, .addSaturate⟩, [(d, .v128)], [.vector a, .vector b]⟩
  | .s16x8AddSaturate d a b => ⟨⟨.s16x8, .addSaturate⟩, [(d, .v128)], [.vector a, .vector b]⟩
  | .u8x16AddSaturate d a b => ⟨⟨.u8x16, .addSaturate⟩, [(d, .v128)], [.vector a, .vector b]⟩
  | .u16x8AddSaturate d a b => ⟨⟨.u16x8, .addSaturate⟩, [(d, .v128)], [.vector a, .vector b]⟩
  | .s8x16SubSaturate d a b => ⟨⟨.s8x16, .subSaturate⟩, [(d, .v128)], [.vector a, .vector b]⟩
  | .s16x8SubSaturate d a b => ⟨⟨.s16x8, .subSaturate⟩, [(d, .v128)], [.vector a, .vector b]⟩
  | .u8x16SubSaturate d a b => ⟨⟨.u8x16, .subSaturate⟩, [(d, .v128)], [.vector a, .vector b]⟩
  | .u16x8SubSaturate d a b => ⟨⟨.u16x8, .subSaturate⟩, [(d, .v128)], [.vector a, .vector b]⟩
  | .i8x16ShiftLeftByScalar d a y => ⟨⟨.i8x16, .shiftLeftByScalar⟩, [(d, .v128)], [.vector a, .scalar .i8 y]⟩
  | .i16x8ShiftLeftByScalar d a y => ⟨⟨.i16x8, .shiftLeftByScalar⟩, [(d, .v128)], [.vector a, .scalar .i8 y]⟩
  | .i32x4ShiftLeftByScalar d a y => ⟨⟨.i32x4, .shiftLeftByScalar⟩, [(d, .v128)], [.vector a, .scalar .i8 y]⟩
  | .i64x2ShiftLeftByScalar d a y => ⟨⟨.i64x2, .shiftLeftByScalar⟩, [(d, .v128)], [.vector a, .scalar .i8 y]⟩
  | .s8x16ShiftRightByScalar d a y => ⟨⟨.s8x16, .shiftRightByScalar⟩, [(d, .v128)], [.vector a, .scalar .i8 y]⟩
  | .s16x8ShiftRightByScalar d a y => ⟨⟨.s16x8, .shiftRightByScalar⟩, [(d, .v128)], [.vector a, .scalar .i8 y]⟩
  | .s32x4ShiftRightByScalar d a y => ⟨⟨.s32x4, .shiftRightByScalar⟩, [(d, .v128)], [.vector a, .scalar .i8 y]⟩
  | .s64x2ShiftRightByScalar d a y => ⟨⟨.s64x2, .shiftRightByScalar⟩, [(d, .v128)], [.vector a, .scalar .i8 y]⟩
  | .u8x16ShiftRightByScalar d a y => ⟨⟨.u8x16, .shiftRightByScalar⟩, [(d, .v128)], [.vector a, .scalar .i8 y]⟩
  | .u16x8ShiftRightByScalar d a y => ⟨⟨.u16x8, .shiftRightByScalar⟩, [(d, .v128)], [.vector a, .scalar .i8 y]⟩
  | .u32x4ShiftRightByScalar d a y => ⟨⟨.u32x4, .shiftRightByScalar⟩, [(d, .v128)], [.vector a, .scalar .i8 y]⟩
  | .u64x2ShiftRightByScalar d a y => ⟨⟨.u64x2, .shiftRightByScalar⟩, [(d, .v128)], [.vector a, .scalar .i8 y]⟩
  | .b8x16And d a b => ⟨⟨.b8x16, .and⟩, [(d, .b8x16)], [.mask .b8x16 a, .mask .b8x16 b]⟩
  | .b16x8And d a b => ⟨⟨.b16x8, .and⟩, [(d, .b16x8)], [.mask .b16x8 a, .mask .b16x8 b]⟩
  | .b32x4And d a b => ⟨⟨.b32x4, .and⟩, [(d, .b32x4)], [.mask .b32x4 a, .mask .b32x4 b]⟩
  | .b64x2And d a b => ⟨⟨.b64x2, .and⟩, [(d, .b64x2)], [.mask .b64x2 a, .mask .b64x2 b]⟩
  | .b8x16Or d a b => ⟨⟨.b8x16, .or⟩, [(d, .b8x16)], [.mask .b8x16 a, .mask .b8x16 b]⟩
  | .b16x8Or d a b => ⟨⟨.b16x8, .or⟩, [(d, .b16x8)], [.mask .b16x8 a, .mask .b16x8 b]⟩
  | .b32x4Or d a b => ⟨⟨.b32x4, .or⟩, [(d, .b32x4)], [.mask .b32x4 a, .mask .b32x4 b]⟩
  | .b64x2Or d a b => ⟨⟨.b64x2, .or⟩, [(d, .b64x2)], [.mask .b64x2 a, .mask .b64x2 b]⟩
  | .b8x16Xor d a b => ⟨⟨.b8x16, .xor⟩, [(d, .b8x16)], [.mask .b8x16 a, .mask .b8x16 b]⟩
  | .b16x8Xor d a b => ⟨⟨.b16x8, .xor⟩, [(d, .b16x8)], [.mask .b16x8 a, .mask .b16x8 b]⟩
  | .b32x4Xor d a b => ⟨⟨.b32x4, .xor⟩, [(d, .b32x4)], [.mask .b32x4 a, .mask .b32x4 b]⟩
  | .b64x2Xor d a b => ⟨⟨.b64x2, .xor⟩, [(d, .b64x2)], [.mask .b64x2 a, .mask .b64x2 b]⟩
  | .b8x16Not d a => ⟨⟨.b8x16, .not⟩, [(d, .b8x16)], [.mask .b8x16 a]⟩
  | .b16x8Not d a => ⟨⟨.b16x8, .not⟩, [(d, .b16x8)], [.mask .b16x8 a]⟩
  | .b32x4Not d a => ⟨⟨.b32x4, .not⟩, [(d, .b32x4)], [.mask .b32x4 a]⟩
  | .b64x2Not d a => ⟨⟨.b64x2, .not⟩, [(d, .b64x2)], [.mask .b64x2 a]⟩
  | .v128And d a b => ⟨⟨.v128, .and⟩, [(d, .v128)], [.vector a, .vector b]⟩
  | .v128Or d a b => ⟨⟨.v128, .or⟩, [(d, .v128)], [.vector a, .vector b]⟩
  | .v128Xor d a b => ⟨⟨.v128, .xor⟩, [(d, .v128)], [.vector a, .vector b]⟩
  | .v128Not d a => ⟨⟨.v128, .not⟩, [(d, .v128)], [.vector a]⟩
  | .b8x16AnyTrue d a => ⟨⟨.b8x16, .anyTrue⟩, [(d, .boolean)], [.mask .b8x16 a]⟩
  | .b16x8AnyTrue d a => ⟨⟨.b16x8, .anyTrue⟩, [(d, .boolean)], [.mask .b16x8 a]⟩
  | .b32x4AnyTrue d a => ⟨⟨.b32x4, .anyTrue⟩, [(d, .boolean)], [.mask .b32x4 a]⟩
  | .b64x2AnyTrue d a => ⟨⟨.b64x2, .anyTrue⟩, [(d, .boolean)], [.mask .b64x2 a]⟩
  | .b8x16AllTrue d a => ⟨⟨.b8x16, .allTrue⟩, [(d, .boolean)], [.mask .b8x16 a]⟩
  | .b16x8AllTrue d a => ⟨⟨.b16x8, .allTrue⟩, [(d, .boolean)], [.mask .b16x8 a]⟩
  | .b32x4AllTrue d a => ⟨⟨.b32x4, .allTrue⟩, [(d, .boolean)], [.mask .b32x4 a]⟩
  | .b64x2AllTrue d a => ⟨⟨.b64x2, .allTrue⟩, [(d, .boolean)], [.mask .b64x2 a]⟩
  | .i8x16Equal d a b => ⟨⟨.i8x16, .equal⟩, [(d, .b8x16)], [.vector a, .vector b]⟩
  | .i16x8Equal d a b => ⟨⟨.i16x8, .equal⟩, [(d, .b16x8)], [.vector a, .vector b]⟩
  | .i32x4Equal d a b => ⟨⟨.i32x4, .equal⟩, [(d, .b32x4)], [.vector a, .vector b]⟩
  | .i64x2Equal d a b => ⟨⟨.i64x2, .equal⟩, [(d, .b64x2)], [.vector a, .vector b]⟩
  | .f32x4Equal d a b => ⟨⟨.f32x4, .equal⟩, [(d, .b32x4)], [.vector a, .vector b]⟩
  | .f64x2Equal d a b => ⟨⟨.f64x2, .equal⟩, [(d, .b64x2)], [.vector a, .vector b]⟩
  | .i8x16NotEqual d a b => ⟨⟨.i8x16, .notEqual⟩, [(d, .b8x16)], [.vector a, .vector b]⟩
  | .i16x8NotEqual d a b => ⟨⟨.i16x8, .notEqual⟩, [(d, .b16x8)], [.vector a, .vector b]⟩
  | .i32x4NotEqual d a b => ⟨⟨.i32x4, .notEqual⟩, [(d, .b32x4)], [.vector a, .vector b]⟩
  | .i64x2NotEqual d a b => ⟨⟨.i64x2, .notEqual⟩, [(d, .b64x2)], [.vector a, .vector b]⟩
  | .f32x4NotEqual d a b => ⟨⟨.f32x4, .notEqual⟩, [(d, .b32x4)], [.vector a, .vector b]⟩
  | .f64x2NotEqual d a b => ⟨⟨.f64x2, .notEqual⟩, [(d, .b64x2)], [.vector a, .vector b]⟩
  | .s8x16LessThan d a b => ⟨⟨.s8x16, .lessThan⟩, [(d, .b8x16)], [.vector a, .vector b]⟩
  | .s16x8LessThan d a b => ⟨⟨.s16x8, .lessThan⟩, [(d, .b16x8)], [.vector a, .vector b]⟩
  | .s32x4LessThan d a b => ⟨⟨.s32x4, .lessThan⟩, [(d, .b32x4)], [.vector a, .vector b]⟩
  | .s64x2LessThan d a b => ⟨⟨.s64x2, .lessThan⟩, [(d, .b64x2)], [.vector a, .vector b]⟩
  | .u8x16LessThan d a b => ⟨⟨.u8x16, .lessThan⟩, [(d, .b8x16)], [.vector a, .vector b]⟩
  | .u16x8LessThan d a b => ⟨⟨.u16x8, .lessThan⟩, [(d, .b16x8)], [.vector a, .vector b]⟩
  | .u32x4LessThan d a b => ⟨⟨.u32x4, .lessThan⟩, [(d, .b32x4)], [.vector a, .vector b]⟩
  | .u64x2LessThan d a b => ⟨⟨.u64x2, .lessThan⟩, [(d, .b64x2)], [.vector a, .vector b]⟩
  | .f32x4LessThan d a b => ⟨⟨.f32x4, .lessThan⟩, [(d, .b32x4)], [.vector a, .vector b]⟩
  | .f64x2LessThan d a b => ⟨⟨.f64x2, .lessThan⟩, [(d, .b64x2)], [.vector a, .vector b]⟩
  | .s8x16LessThanOrEqual d a b => ⟨⟨.s8x16, .lessThanOrEqual⟩, [(d, .b8x16)], [.vector a, .vector b]⟩
  | .s16x8LessThanOrEqual d a b => ⟨⟨.s16x8, .lessThanOrEqual⟩, [(d, .b16x8)], [.vector a, .vector b]⟩
  | .s32x4LessThanOrEqual d a b => ⟨⟨.s32x4, .lessThanOrEqual⟩, [(d, .b32x4)], [.vector a, .vector b]⟩
  | .s64x2LessThanOrEqual d a b => ⟨⟨.s64x2, .lessThanOrEqual⟩, [(d, .b64x2)], [.vector a, .vector b]⟩
  | .u8x16LessThanOrEqual d a b => ⟨⟨.u8x16, .lessThanOrEqual⟩, [(d, .b8x16)], [.vector a, .vector b]⟩
  | .u16x8LessThanOrEqual d a b => ⟨⟨.u16x8, .lessThanOrEqual⟩, [(d, .b16x8)], [.vector a, .vector b]⟩
  | .u32x4LessThanOrEqual d a b => ⟨⟨.u32x4, .lessThanOrEqual⟩, [(d, .b32x4)], [.vector a, .vector b]⟩
  | .u64x2LessThanOrEqual d a b => ⟨⟨.u64x2, .lessThanOrEqual⟩, [(d, .b64x2)], [.vector a, .vector b]⟩
  | .f32x4LessThanOrEqual d a b => ⟨⟨.f32x4, .lessThanOrEqual⟩, [(d, .b32x4)], [.vector a, .vector b]⟩
  | .f64x2LessThanOrEqual d a b => ⟨⟨.f64x2, .lessThanOrEqual⟩, [(d, .b64x2)], [.vector a, .vector b]⟩
  | .s8x16GreaterThan d a b => ⟨⟨.s8x16, .greaterThan⟩, [(d, .b8x16)], [.vector a, .vector b]⟩
  | .s16x8GreaterThan d a b => ⟨⟨.s16x8, .greaterThan⟩, [(d, .b16x8)], [.vector a, .vector b]⟩
  | .s32x4GreaterThan d a b => ⟨⟨.s32x4, .greaterThan⟩, [(d, .b32x4)], [.vector a, .vector b]⟩
  | .s64x2GreaterThan d a b => ⟨⟨.s64x2, .greaterThan⟩, [(d, .b64x2)], [.vector a, .vector b]⟩
  | .u8x16GreaterThan d a b => ⟨⟨.u8x16, .greaterThan⟩, [(d, .b8x16)], [.vector a, .vector b]⟩
  | .u16x8GreaterThan d a b => ⟨⟨.u16x8, .greaterThan⟩, [(d, .b16x8)], [.vector a, .vector b]⟩
  | .u32x4GreaterThan d a b => ⟨⟨.u32x4, .greaterThan⟩, [(d, .b32x4)], [.vector a, .vector b]⟩
  | .u64x2GreaterThan d a b => ⟨⟨.u64x2, .greaterThan⟩, [(d, .b64x2)], [.vector a, .vector b]⟩
  | .f32x4GreaterThan d a b => ⟨⟨.f32x4, .greaterThan⟩, [(d, .b32x4)], [.vector a, .vector b]⟩
  | .f64x2GreaterThan d a b => ⟨⟨.f64x2, .greaterThan⟩, [(d, .b64x2)], [.vector a, .vector b]⟩
  | .s8x16GreaterThanOrEqual d a b => ⟨⟨.s8x16, .greaterThanOrEqual⟩, [(d, .b8x16)], [.vector a, .vector b]⟩
  | .s16x8GreaterThanOrEqual d a b => ⟨⟨.s16x8, .greaterThanOrEqual⟩, [(d, .b16x8)], [.vector a, .vector b]⟩
  | .s32x4GreaterThanOrEqual d a b => ⟨⟨.s32x4, .greaterThanOrEqual⟩, [(d, .b32x4)], [.vector a, .vector b]⟩
  | .s64x2GreaterThanOrEqual d a b => ⟨⟨.s64x2, .greaterThanOrEqual⟩, [(d, .b64x2)], [.vector a, .vector b]⟩
  | .u8x16GreaterThanOrEqual d a b => ⟨⟨.u8x16, .greaterThanOrEqual⟩, [(d, .b8x16)], [.vector a, .vector b]⟩
  | .u16x8GreaterThanOrEqual d a b => ⟨⟨.u16x8, .greaterThanOrEqual⟩, [(d, .b16x8)], [.vector a, .vector b]⟩
  | .u32x4GreaterThanOrEqual d a b => ⟨⟨.u32x4, .greaterThanOrEqual⟩, [(d, .b32x4)], [.vector a, .vector b]⟩
  | .u64x2GreaterThanOrEqual d a b => ⟨⟨.u64x2, .greaterThanOrEqual⟩, [(d, .b64x2)], [.vector a, .vector b]⟩
  | .f32x4GreaterThanOrEqual d a b => ⟨⟨.f32x4, .greaterThanOrEqual⟩, [(d, .b32x4)], [.vector a, .vector b]⟩
  | .f64x2GreaterThanOrEqual d a b => ⟨⟨.f64x2, .greaterThanOrEqual⟩, [(d, .b64x2)], [.vector a, .vector b]⟩
  | .v8x16Load d mem addr => ⟨⟨.v8x16, .load⟩, [(d, .v128)], [.buffer mem, .offset addr]⟩
  | .v16x8Load d mem addr => ⟨⟨.v16x8, .load⟩, [(d, .v128)], [.buffer mem, .offset addr]⟩
  | .v32x4Load d mem addr => ⟨⟨.v32x4, .load⟩, [(d, .v128)], [.buffer mem, .offset addr]⟩
  | .v64x2Load d mem addr => ⟨⟨.v64x2, .load⟩, [(d, .v128)], [.buffer mem, .offset addr]⟩
  | .v8x16Store mem addr data => ⟨⟨.v8x16, .store⟩, [], [.buffer mem, .offset addr, .vector data]⟩
  | .v16x8Store mem addr data => ⟨⟨.v16x8, .store⟩, [], [.buffer mem, .offset addr, .vector data]⟩
  | .v32x4Store mem addr data => ⟨⟨.v32x4, .store⟩, [], [.buffer mem, .offset addr, .vector data]⟩
  | .v64x2Store mem addr data => ⟨⟨.v64x2, .store⟩, [], [.buffer mem, .offset addr, .vector data]⟩
  | .v32x4Load1 d mem addr => ⟨⟨.v32x4, .load1⟩, [(d, .v128)], [.buffer mem, .offset addr]⟩
  | .v32x4Load2 d mem addr => ⟨⟨.v32x4, .load2⟩, [(d, .v128)], [.buffer mem, .offset addr]⟩
  | .v32x4Load3 d mem addr => ⟨⟨.v32x4, .load3⟩, [(d, .v128)], [.buffer mem, .offset addr]⟩
  | .v32x4Store1 mem addr data => ⟨⟨.v32x4, .store1⟩, [], [.buffer mem, .offset addr, .vector data]⟩
  | .v32x4Store2 mem addr data => ⟨⟨.v32x4, .store2⟩, [], [.buffer mem, .offset addr, .vector data]⟩
  | .v32x4Store3 mem addr data => ⟨⟨.v32x4, .store3⟩, [], [.buffer mem, .offset addr, .vector data]⟩
  | .f32x4Neg d a => ⟨⟨.f32x4, .neg⟩, [(d, .v128)], [.vector a]⟩
  | .f64x2Neg d a => ⟨⟨.f64x2, .neg⟩, [(d, .v128)], [.vector a]⟩
  | .f32x4Abs d a => ⟨⟨.f32x4, .abs⟩, [(d, .v128)], [.vector a]⟩
  | .f64x2Abs d a => ⟨⟨.f64x2, .abs⟩, [(d, .v128)], [.vector a]⟩
  | .f32x4Min d a b => ⟨⟨.f32x4, .min⟩, [(d, .v128)], [.vector a, .vector b]⟩
  | .f64x2Min d a b => ⟨⟨.f64x2, .min⟩, [(d, .v128)], [.vector a, .vector b]⟩
  | .f32x4Max d a b => ⟨⟨.f32x4, .max⟩, [(d, .v128)], [.vector a, .vector b]⟩
  | .f64x2Max d a b => ⟨⟨.f64x2, .max⟩, [(d, .v128)], [.vector a, .vector b]⟩
  | .f32x4MinNum d a b => ⟨⟨.f32x4, .minNum⟩, [(d, .v128)], [.vector a, .vector b]⟩
  | .f64x2MinNum d a b => ⟨⟨.f64x2, .minNum⟩, [(d, .v128)], [.vector a, .vector b]⟩
  | .f32x4MaxNum d a b => ⟨⟨.f32x4, .maxNum⟩, [(d, .v128)], [.vector a, .vector b]⟩
  | .f64x2MaxNum d a b => ⟨⟨.f64x2, .maxNum⟩, [(d, .v128)], [.vector a, .vector b]⟩
  | .f32x4Add d a b rm => ⟨⟨.f32x4, .add⟩, [(d, .v128)], [.vector a, .vector b, .rounding rm]⟩
  | .f64x2Add d a b rm => ⟨⟨.f64x2, .add⟩, [(d, .v128)], [.vector a, .vector b, .rounding rm]⟩
  | .f32x4Sub d a b rm => ⟨⟨.f32x4, .sub⟩, [(d, .v128)], [.vector a, .vector b, .rounding rm]⟩
  | .f64x2Sub d a b rm => ⟨⟨.f64x2, .sub⟩, [(d, .v128)], [.vector a, .vector b, .rounding rm]⟩
  | .f32x4Div d a b rm => ⟨⟨.f32x4, .div⟩, [(d, .v128)], [.vector a, .vector b, .rounding rm]⟩
  | .f64x2Div d a b rm => ⟨⟨.f64x2, .div⟩, [(d, .v128)], [.vector a, .vector b, .rounding rm]⟩
  | .f32x4Mul d a b rm => ⟨⟨.f32x4, .mul⟩, [(d, .v128)], [.vector a, .vector b, .rounding rm]⟩
  | .f64x2Mul d a b rm => ⟨⟨.f64x2, .mul⟩, [(d, .v128)], [.vector a, .vector b, .rounding rm]⟩
  | .f32x4Sqrt d a rm => ⟨⟨.f32x4, .sqrt⟩, [(d, .v128)], [.vector a, .rounding rm]⟩
  | .f64x2Sqrt d a rm => ⟨⟨.f64x2, .sqrt⟩, [(d, .v128)], [.vector a, .rounding rm]⟩
  | .f32x4ReciprocalApproximation d a => ⟨⟨.f32x4, .reciprocalApproximation⟩, [(d, .v128)], [.vector a]⟩
  | .f64x2ReciprocalApproximation d a => ⟨⟨.f64x2, .reciprocalApproximation⟩, [(d, .v128)], [.vector a]⟩
  | .f32x4ReciprocalSqrtApproximation d a => ⟨⟨.f32x4, .reciprocalSqrtApproximation⟩, [(d, .v128)], [.vector a]⟩
  | .f64x2ReciprocalSqrtApproximation d a => ⟨⟨.f64x2, .reciprocalSqrtApproximation⟩, [(d, .v128)], [.vector a]⟩
  | .f32x4FromSignedInt d a rm => ⟨⟨.f32x4, .fromSignedInt⟩, [(d, .v128)], [.vector a, .rounding rm]⟩
  | .f64x2FromSignedInt d a rm => ⟨⟨.f64x2, .fromSignedInt⟩, [(d, .v128)], [.vector a, .rounding rm]⟩
  | .f32x4FromUnsignedInt d a rm => ⟨⟨.f32x4, .fromUnsignedInt⟩, [(d, .v128)], [.vector a, .rounding rm]⟩
  | .f64x2FromUnsignedInt d a rm => ⟨⟨.f64x2, .fromUnsignedInt⟩, [(d, .v128)], [.vector a, .rounding rm]⟩
  | .s32x4FromFloat d1 d2 a => ⟨⟨.s32x4, .fromFloat⟩, [(d1, .v128), (d2, .boolean)], [.vector a]⟩
  | .s64x2FromFloat d1 d2 a => ⟨⟨.s64x2, .fromFloat⟩, [(d1, .v128), (d2, .boolean)], [.vector a]⟩
  | .u32x4FromFloat d1 d2 a => ⟨⟨.u32x4, .fromFloat⟩, [(d1, .v128), (d2, .boolean)], [.vector a]⟩
  | .u64x2FromFloat d1 d2 a => ⟨⟨.u64x2, .fromFloat⟩, [(d1, .v128), (d2, .boolean)], [.vector a]⟩

end Sys2Proof
end

