-- ==== Sys2Proof/WellFormed.lean ====
section
/-! DEFINITION. Well-formedness: the names of the checks (30_encoding.md R108) and the conditions on one instruction that its
type does not already carry. Array lengths, lane-index bounds, pattern widths and rounding-mode names are types in
`Syntax.lean`; the checks against a program and a launch are in `Machine/Program.lean`. -/

namespace Sys2Proof

/-- The checks a statement can fail (30_encoding.md R108, 60_exceptions.md R605). -/
inductive Check where
  /-- THE MODEL'S OWN name: the text has none of the three forms of a statement (30_encoding.md R109), or a name in it is no
  identifier (log entry 1). -/
  | statementForm
  /-- The mnemonic is not one of the 216 (R112). -/
  | knownMnemonic
  /-- The number of operands or of destinations is not that of the format. -/
  | arity
  /-- A slot operand has another type than the signature asks for, or a literal is no value of its type. -/
  | operandTypes
  /-- A destination slot that already has a type is given a result of another type. -/
  | destinationTypes
  /-- The Buffer operand names no Buffer of the launch. -/
  | bufferKnown
  /-- The two destinations of a `fromFloat` are one slot. -/
  | distinctDestinations
deriving DecidableEq, Repr

/-- Whether the code of a character lies between those of two others. -/
def between (a b c : Char) : Bool := Nat.ble a.toNat c.toNat && Nat.ble c.toNat b.toNat

/-- An ASCII letter or an underscore. -/
def isLetter (c : Char) : Bool := between 'a' 'z' c || between 'A' 'Z' c || c == '_'

/-- An ASCII letter, a digit or an underscore. -/
def isNameChar (c : Char) : Bool := isLetter c || between '0' '9' c

/-- An identifier: a letter or an underscore followed by letters, digits and underscores, and not one of the two boolean
literals (10_state.md R46 "any identifier", 30_encoding.md R107; DESIGN CHOICE, log entry 1). -/
def Ident.valid (x : Ident) : Bool :=
  match x with
  | [] => false
  | c :: r => isLetter c && r.all isNameChar && !(x == ['t', 'r', 'u', 'e']) && !(x == ['f', 'a', 'l', 's', 'e'])

/-- An identifier that may stand as an element of a boolean array, where `t` and `f` are the literals (R107, log entry 1). -/
def Ident.validElement (x : Ident) : Bool := x.valid && !(x == ['t']) && !(x == ['f'])

/-- No name twice (R108 `distinct_destinations`). -/
def distinctNames : List Ident → Bool
  | [] => true
  | x :: r => !r.contains x && distinctNames r

/-- An operand that is a literal, or a slot whose name `p` accepts. -/
def Operand.named {lit : Type} (p : Ident → Bool) : Operand lit → Bool
  | .slot x => p x
  | .lit _ => true

/-- The names in an operand of a statement are identifiers. -/
def Arg.wellFormed : Arg → Bool
  | .vector o => o.named Ident.valid
  | .mask _ o => o.named Ident.valid
  | .scalar _ o => o.named Ident.valid
  | .boolean o => o.named Ident.valid
  | .scalars _ os => os.all (Operand.named Ident.valid)
  | .booleans os => os.all (Operand.named Ident.validElement)
  | .index _ => true
  | .indices _ => true
  | .rounding _ => true
  | .buffer m => m.valid
  | .offset _ => true

/-- An instruction that a statement can be: every name an identifier, the destinations distinct. -/
def Instr.wellFormed (i : Instr) : Bool :=
  i.statement.dests.all (fun d => d.1.valid) && i.statement.args.all Arg.wellFormed
    && distinctNames (i.statement.dests.map Prod.fst)

end Sys2Proof
end

