-- ==== Sys2Proof/Machine/State.lean ====
section
/-! DEFINITION. The state of the container machine (10_state.md part 2), its faults and refusals, and its initial state. -/

namespace Sys2Proof.Machine

/-- A typed value, the content of a value slot (10_state.md R46). A floating-point value is its pattern (R31); a boolean
vector is a list of booleans and has no bit pattern (R36). -/
inductive Value where
  | v128 (v : V128)
  | b8x16 (v : Lanes Bool 16)
  | b16x8 (v : Lanes Bool 8)
  | b32x4 (v : Lanes Bool 4)
  | b64x2 (v : Lanes Bool 2)
  | i8 (p : BitVec 8)
  | i16 (p : BitVec 16)
  | i32 (p : BitVec 32)
  | i64 (p : BitVec 64)
  | f32 (p : BitVec 32)
  | f64 (p : BitVec 64)
  | boolean (b : Bool)
deriving DecidableEq, Repr

/-- The type of a value (R46). -/
def Value.ty : Value → Ty
  | .v128 _ => .v128
  | .b8x16 _ => .b8x16
  | .b16x8 _ => .b16x8
  | .b32x4 _ => .b32x4
  | .b64x2 _ => .b64x2
  | .i8 _ => .i8
  | .i16 _ => .i16
  | .i32 _ => .i32
  | .i64 _ => .i64
  | .f32 _ => .f32
  | .f64 _ => .f64
  | .boolean _ => .boolean

/-- A Buffer (20_memory.md R70): `len` bytes, addressed 0 .. len-1. `cells` lists, addresses rising, exactly the bytes
that are not 0x00; an unlisted byte within the length reads as 0x00. Every content of every length has exactly one such
form, so the form assumes nothing about the launch content (R55; log entry 4). -/
structure Buffer where
  len : Nat
  cells : List Host.Cell
deriving DecidableEq, Repr

/-- The fault causes of the container, all of them (60_exceptions.md R602). Raising one (R601) gives a NEXT state whose
`fault` field holds it; a step from such a state answers `Outcome.fault` with it, since a faulted state takes no further
step (10_state.md R54). -/
inductive Fault where
  /-- Code 0, `BufferRange(mem, addr, n)`: raised by the 14 loads and stores when the `n` bytes at `addr` are not all in
  range (R603). Safe: the spec describes it whole. -/
  | bufferRange (mem : Ident) (addr n : Nat)
  /-- Code 1, `UnwrittenSlot(name)`: raised by any statement that reads a slot no statement has written (R604). Safe: the
  spec describes it whole. -/
  | unwrittenSlot (x : Ident)
deriving DecidableEq, Repr

/-- The code number of a fault cause (R602; the numbers are the spec's own and serve only to name a cause). -/
def Fault.code : Fault → Nat
  | .bufferRange _ _ _ => 0
  | .unwrittenSlot _ => 1

/-- Why there is no step. -/
inductive Refusal where
  /-- Raised by an arm of `exec` whose instruction has no meaning yet. No arm of this model answers so. Safe. -/
  | notModelled (mnemonic : String)
  /-- Raised by `step` before the run when a statement of the program fails a check of 30_encoding.md R108, and by a meaning
  whose operands do not have the types of its signature: such a program is no program of this machine (60_exceptions.md
  R605). Safe: no behaviour is invented. -/
  | illFormed (check : Check)
  /-- Raised by `step` on a final state, `pc = n` with `fault` empty: the run is over and no other kind of step exists
  (10_state.md R48, 30_encoding.md R109). Safe. -/
  | runOver
deriving DecidableEq, Repr

/-- The state of the machine: 10_state.md R46, R48, R49, R54 and the launch parameters of 70_reset_and_hazards.md R641. -/
structure State where
  /-- The value slots `x` (R46): the written slots with their values, names in strictly rising order. A slot not listed is
  unwritten (R47). -/
  slots : List (Ident × Value)
  /-- `pc`, the index of the current statement (R48). -/
  pc : Nat
  /-- `fault`, empty or the first fault raised (R54). -/
  fault : Option Fault
  /-- The Buffers by name, names in strictly rising order (R49, 20_memory.md R70). -/
  mem : List (Ident × Buffer)
  /-- The program `P[0 .. n-1]`, one statement text each, in no Buffer (R48, 30_encoding.md R109). -/
  program : List Text
  /-- `LANE_MAPPING`, `FLUSH_SUBNORMALS` and `OFFSET_BITS`, fixed for the run (R641, R642). -/
  params : Params
  /-- THE MODEL'S OWN field, not the spec's: how many free values have been drawn (log entry 5). -/
  draws : Nat
deriving DecidableEq, Repr

/-- The initial state (10_state.md R55, 70_reset_and_hazards.md R641): every slot unwritten, `pc` 0, `fault` empty,
`LANE_MAPPING` its default. The other launch parameters have no value in the spec: no Buffer, no statement,
`FLUSH_SUBNORMALS` false and `OFFSET_BITS` 32 are a DESIGN CHOICE (log entry 2), and so is the model's own `draws`
(log entry 5). Unsafe: a statement about this one state says nothing of other launches. -/
def State.reset : State :=
  { slots := []
    pc := 0
    fault := none
    mem := []
    program := []
    params := { laneMapping := .leDirect, flushSubnormals := false, offsetBits := 32 }
    draws := 0 }

end Sys2Proof.Machine
end

