-- ==== Sys2Proof/Machine/Ops.lean ====
section
/-! DEFINITION. The named operations over slots, Buffers and the fault field: the container primitives of 00_scope.md R12,
the access primitives of 20_memory.md R70 to R72, and raising a fault (60_exceptions.md R601). -/

namespace Sys2Proof.Machine

/-- The outcome of a step or of a meaning. -/
abbrev Out := Host.Outcome State Fault Refusal

/-! ### Name-keyed lists in canonical form -/

/-- Names in strictly rising order. -/
def namesRising : List Ident → Bool
  | [] => true
  | [_] => true
  | a :: b :: r => a.before b && namesRising (b :: r)

/-- `x[i]`, the content of a slot, `none` when it is unwritten (00_scope.md R12, 10_state.md R47). -/
def Slots.find (x : Ident) : List (Ident × Value) → Option Value
  | [] => none
  | (y, v) :: r => if y = x then some v else Slots.find x r

/-- `x[i] <- v`, one slot written and no other changed (R12, 10_state.md R46: "Slots do not alias"). -/
def Slots.put (x : Ident) (v : Value) : List (Ident × Value) → List (Ident × Value)
  | [] => [(x, v)]
  | (y, w) :: r =>
    if y = x then (x, v) :: r
    else if x.before y then (x, v) :: (y, w) :: r
    else (y, w) :: Slots.put x v r

/-! ### Bytes of a Buffer -/

/-- What an unlisted byte of a Buffer reads as: 0x00. The launch lists every other byte, so this fixes no content
(log entry 4). -/
def unlistedByte : Byte := 0

/-- The byte at address `a` in a list of cells. -/
def Cells.get (a : Nat) : List Host.Cell → Byte
  | [] => unlistedByte
  | (k, b) :: r => if k = a then b else Cells.get a r

/-- The byte at address `a` set to `b`, the canonical form kept: a byte equal to what an unlisted address reads as is
removed. -/
def Cells.put (a : Nat) (b : Byte) : List Host.Cell → List Host.Cell
  | [] => if b = unlistedByte then [] else [(a, b)]
  | (k, c) :: r =>
    if k < a then (k, c) :: Cells.put a b r
    else if k = a then (if b = unlistedByte then r else (a, b) :: r)
    else (if b = unlistedByte then (k, c) :: r else (a, b) :: (k, c) :: r)

/-- Addresses strictly rising, every address below `len`, no byte that an unlisted address would read as. -/
def Cells.wf (len : Nat) : List Host.Cell → Bool
  | [] => true
  | [(k, b)] => k < len && b != unlistedByte
  | (k, b) :: (j, c) :: r => k < j && b != unlistedByte && Cells.wf len ((j, c) :: r)

/-- `mem.bytes[a]` (20_memory.md R70). -/
def Buffer.byte (b : Buffer) (a : Nat) : Byte := Cells.get a b.cells

/-- `mem.bytes[a] <- v`. A byte at or past the end does not exist and nothing is written there; every caller has checked
the range first (R81). -/
def Buffer.setByte (b : Buffer) (a : Nat) (v : Byte) : Buffer :=
  if a < b.len then { b with cells := Cells.put a v b.cells } else b

/-- Consecutive bytes written from address `a` on. -/
def Buffer.setBytes (b : Buffer) (a : Nat) : List Byte → Buffer
  | [] => b
  | v :: vs => (b.setByte a v).setBytes (a + 1) vs

/-- The canonical form of one Buffer. -/
def Buffer.wf (b : Buffer) : Bool := Cells.wf b.len b.cells

/-- The Buffer of a name, `none` when the launch has none of that name. -/
def Memory.find (m : Ident) : List (Ident × Buffer) → Option Buffer
  | [] => none
  | (y, b) :: r => if y = m then some b else Memory.find m r

/-- The content of a named Buffer replaced; the set of Buffers is the launch's and never changes. -/
def Memory.update (m : Ident) (b : Buffer) : List (Ident × Buffer) → List (Ident × Buffer)
  | [] => []
  | (y, c) :: r => if y = m then (y, b) :: r else (y, c) :: Memory.update m b r

/-- The canonical form of the Buffers: names strictly rising, every Buffer canonical. -/
def Memory.wf (m : List (Ident × Buffer)) : Bool :=
  namesRising (m.map Prod.fst) && m.all fun e => e.2.wf

/-! ### Byte order (20_memory.md R71 to R77) -/

/-- Whether the native byte order is little-endian: for `LE_DIRECT` alone (R77). -/
def littleEndian : LaneMapping → Bool
  | .leDirect => true
  | .beDirect => false
  | .beHybrid => false

/-- The number that bytes spell, the first byte the least significant: the sum of `b[k] * 2^(8k)` (R71). -/
def natOfBytes : List Byte → Nat
  | [] => 0
  | b :: r => b.toNat + 256 * natOfBytes r

/-- The `n` low bytes of a number, the least significant first. -/
def bytesOfNat : Nat → Nat → List Byte
  | 0, _ => []
  | n + 1, p => BitVec.ofNat 8 p :: bytesOfNat n (p / 256)

/-- `MemRead(mem, addr, W/8)` (R71): the pattern that the bytes at `addr` spell in the native byte order. -/
def memRead (m : LaneMapping) (b : Buffer) (addr W : Nat) : BitVec W :=
  let bytes := (List.range (W / 8)).map fun k => b.byte (addr + k)
  BitVec.ofNat W (natOfBytes (if littleEndian m then bytes else bytes.reverse))

/-- `MemWrite(mem, addr, W/8, p)` (R72): the bytes of the pattern written at `addr` in the native byte order. -/
def memWrite (m : LaneMapping) (b : Buffer) (addr : Nat) {W : Nat} (p : BitVec W) : Buffer :=
  let bytes := bytesOfNat (W / 8) p.toNat
  b.setBytes addr (if littleEndian m then bytes else bytes.reverse)

/-- `in_range(mem, addr, n)` in unbounded integers (R70). -/
def inRange (p : Params) (b : Buffer) (addr n : Nat) : Bool :=
  decide (addr + n ≤ b.len ∧ addr + n - 1 ≤ 2 ^ p.offsetBits - 1)

/-! ### The state -/

/-- The content of a slot, `none` when unwritten. -/
def State.slot (s : State) (x : Ident) : Option Value := Slots.find x s.slots

/-- The Buffer of a name. -/
def State.buffer (s : State) (m : Ident) : Option Buffer := Memory.find m s.mem

/-- One byte of memory: byte `a` of Buffer `m`, `none` where no such byte exists. -/
def State.byte (s : State) (m : Ident) (a : Nat) : Option Byte :=
  match s.buffer m with
  | some b => if a < b.len then some (b.byte a) else none
  | none => none

/-- Raising a fault (60_exceptions.md R601, R608): `fault` is set, and no slot, no byte of any Buffer and not `pc` changes. -/
def State.raise (s : State) (f : Fault) : State := { s with fault := some f }

/-- Results written to their destination slots, in order (30_encoding.md R109). -/
def State.putAll (s : State) : List (Ident × Value) → State
  | [] => s
  | (d, v) :: r => ({ s with slots := Slots.put d v s.slots }).putAll r

/-- `pc <- pc + 1`, which ends every statement that does not fault (10_state.md R48). -/
def State.advance (s : State) : State := { s with pc := s.pc + 1 }

/-- `n` free values used up (log entry 5). -/
def State.drew (s : State) (n : Nat) : State := { s with draws := s.draws + n }

/-- A statement without results or draws left to do: one result written and `pc` advanced (R109). -/
def State.retire (s : State) (d : Ident) (v : Value) : State := (s.putAll [(d, v)]).advance

/-- The content of a Buffer replaced. -/
def State.setBuffer (s : State) (m : Ident) (b : Buffer) : State := { s with mem := Memory.update m b s.mem }

/-- Whether a slot may be the destination of a result of type `τ`: it is unwritten or already has that type, which its
first write fixed (10_state.md R46, 30_encoding.md R108 `destination_types`). -/
def State.accepts (s : State) (x : Ident) (τ : Ty) : Bool :=
  match s.slot x with
  | none => true
  | some v => v.ty == τ

/-- The canonical form of a whole state: slot names and memory. -/
def State.wf (s : State) : Bool := namesRising (s.slots.map Prod.fst) && Memory.wf s.mem

end Sys2Proof.Machine
end

