-- ==== Sys2Proof/Machine/Lanes.lean ====
section
/-! DEFINITION. Lanes of a `v128` (10_state.md R37, R38) and the lane-wise helpers of the source (00_scope.md R15 to R17). -/

namespace Sys2Proof.Machine

/-- `LSB_FIRST` (10_state.md R38): whether the lowest-numbered bit of a lane is its least significant bit. -/
def lsbFirst : LaneMapping → Bool
  | .leDirect => true
  | .beDirect => false
  | .beHybrid => true

/-- The pattern of a lane from its bits in the order of their numbers, and back: the identity when `LSB_FIRST`, the
reversal of the bits otherwise (R38). -/
def orient (m : LaneMapping) {W : Nat} (p : BitVec W) : BitVec W :=
  if lsbFirst m then p else p.reverse

/-- `lane(W, v, n)` (R38): lane n lies at bits numbered `W*n` to `W*n + W-1` (R37). -/
def lane (m : LaneMapping) (W : Nat) (v : V128) (n : Nat) : BitVec W :=
  orient m (v.extractLsb' (W * n) W)

/-- The number whose binary digits are those of the patterns, the first pattern lowest. -/
def joinNat {W : Nat} : List (BitVec W) → Nat
  | [] => 0
  | p :: r => p.toNat + 2 ^ W * joinNat r

/-- `[p0, p1, ..., p(L-1)]_W` (00_scope.md R11): the `v128` whose lane n under the W-bit division is `pn`. -/
def ofLanes (m : LaneMapping) {W : Nat} (ps : List (BitVec W)) : V128 :=
  BitVec.ofNat 128 (joinNat (ps.map (orient m)))

/-- The lanes of a vector under the W-bit division, lane 0 first; there are `128 / W` of them (R11). -/
def lanes (m : LaneMapping) (W : Nat) (v : V128) : List (BitVec W) :=
  (List.range (128 / W)).map (lane m W v)

/-- `setlane(W, v, n, p)` (R38). -/
def setlane (m : LaneMapping) {W : Nat} (v : V128) (n : Nat) (p : BitVec W) : V128 :=
  ofLanes m ((lanes m W v).set n p)

/-- The value of a `v128` literal, a lane list with its lane width (30_encoding.md R107). -/
def literalValue (m : LaneMapping) : V128Lit → V128
  | .w8 ps => ofLanes m ps.toList
  | .w16 ps => ofLanes m ps.toList
  | .w32 ps => ofLanes m ps.toList
  | .w64 ps => ofLanes m ps.toList

/-- A vector made lane by lane: lane i is `f i`. -/
def buildLanes (m : LaneMapping) (W : Nat) (f : Nat → BitVec W) : V128 :=
  ofLanes m ((List.range (128 / W)).map f)

/-- `S.lanewise_unary(func, a)` (00_scope.md R15). -/
def lanewise1 (m : LaneMapping) (W : Nat) (f : BitVec W → BitVec W) (a : V128) : V128 :=
  buildLanes m W fun i => f (lane m W a i)

/-- `S.lanewise_binary(func, a, b)` (R16). -/
def lanewise2 (m : LaneMapping) (W : Nat) (f : BitVec W → BitVec W → BitVec W) (a b : V128) : V128 :=
  buildLanes m W fun i => f (lane m W a i) (lane m W b i)

/-- `S.lanewise_unary` of a function that draws: lane i uses draw number `n + i`, so every lane draws for itself
(40_fp_semantics.md R145, log entry 5). -/
def lanewiseDraw1 (m : LaneMapping) (W : Nat) (f : Nat → BitVec W → BitVec W) (n : Nat) (a : V128) : V128 :=
  buildLanes m W fun i => f (n + i) (lane m W a i)

/-- `S.lanewise_binary` of a function that draws (R16, R145). -/
def lanewiseDraw2 (m : LaneMapping) (W : Nat) (f : Nat → BitVec W → BitVec W → BitVec W) (n : Nat) (a b : V128) : V128 :=
  buildLanes m W fun i => f (n + i) (lane m W a i) (lane m W b i)

/-- `S.lanewise_comparison(func, a, b)` (R17): a boolean vector of `L` lanes. -/
def lanewiseCompare (m : LaneMapping) (W L : Nat) (f : BitVec W → BitVec W → Bool) (a b : V128) : Lanes Bool L :=
  Lanes.tabulate L fun i => f (lane m W a i) (lane m W b i)

/-- `S.select(s, t, f)` (42_lane_access.md R232): whole lanes from `t` where the selector is true, from `f` elsewhere. -/
def selectLanes (m : LaneMapping) (W : Nat) {L : Nat} (c : Lanes Bool L) (t f : V128) : V128 :=
  ofLanes m (List.zipWith (fun (x : Bool) (p : BitVec W × BitVec W) => if x then p.1 else p.2) c.toList
    ((lanes m W t).zip (lanes m W f)))

/-- `S.swizzle(a, s)` (R233): lane i of the result is lane `s[i]` of `a`. -/
def swizzleLanes (m : LaneMapping) (W : Nat) {L : Nat} (a : V128) (c : Lanes (Fin L) L) : V128 :=
  ofLanes m (c.toList.map fun k => lane m W a k.val)

/-- `S.shuffle(a, b, s)` (R234): an index below `S.Lanes` names a lane of `a`, any other a lane of `b`. -/
def shuffleLanes (m : LaneMapping) (W L : Nat) {N : Nat} (a b : V128) (c : Lanes (Fin N) L) : V128 :=
  ofLanes m (c.toList.map fun k => if k.val < L then lane m W a k.val else lane m W b (k.val - L))

/-- The 16 (or 4, 8, 12) bytes at `addr` as lanes (46_load_store.md R431, R433): lane i is read from `addr + i * W/8`. -/
def loadLanes (m : LaneMapping) (W L : Nat) (b : Buffer) (addr : Nat) : List (BitVec W) :=
  (List.range L).map fun i => memRead m b (addr + i * (W / 8)) W

/-- The lanes of `data` written from `addr` on (R432, R434): lane i goes to `addr + i * W/8`. -/
def storeLanes (m : LaneMapping) {W : Nat} (b : Buffer) (addr : Nat) : List (BitVec W) → Buffer
  | [] => b
  | p :: r => storeLanes m (memWrite m b addr p) (addr + W / 8) r

end Sys2Proof.Machine
end

