-- ==== Sys2Proof/Machine/Integer.lean ====
section
/-! DEFINITION. The integer lane functions of 43_int_arith.md and 45_comparisons.md: operands read as integers, the exact
result computed, and the result narrowed in one place. -/

namespace Sys2Proof.Machine

/-- `S.Reduce(z)`, `bits_W(z)`: the exact integer modulo `2^W` (43_int_arith.md R270, 00_scope.md R10). -/
def reduce (W : Nat) (z : Int) : BitVec W := BitVec.ofInt W z

/-- `uint_W(p)` (R10). -/
def uint {W : Nat} (p : BitVec W) : Int := p.toNat

/-- `sint_W(p)` (R10). -/
def sint {W : Nat} (p : BitVec W) : Int := p.toInt

/-- Wrapping addition of two lanes (R271). -/
def wrapAdd {W : Nat} (x y : BitVec W) : BitVec W := reduce W (uint x + uint y)

/-- Wrapping subtraction of two lanes (R272). -/
def wrapSub {W : Nat} (x y : BitVec W) : BitVec W := reduce W (uint x - uint y)

/-- Wrapping multiplication of two lanes (R273). -/
def wrapMul {W : Nat} (x y : BitVec W) : BitVec W := reduce W (uint x * uint y)

/-- Wrapping negation of a lane (R274). -/
def wrapNeg {W : Nat} (x : BitVec W) : BitVec W := reduce W (0 - uint x)

/-- `S.Saturate(z)` for given `S.Min` and `S.Max` (R275). -/
def saturate (lo hi z : Int) : Int := if z < lo then lo else if hi < z then hi else z

/-- The exact integer clamped to the signed range of W bits (10_state.md R40) and stored. -/
def saturateS (W : Nat) (z : Int) : BitVec W := reduce W (saturate (-(2 ^ (W - 1))) (2 ^ (W - 1) - 1) z)

/-- The exact integer clamped to the unsigned range of W bits (R41) and stored. -/
def saturateU (W : Nat) (z : Int) : BitVec W := reduce W (saturate 0 (2 ^ W - 1) z)

/-- Signed saturating addition (43_int_arith.md R276). -/
def addSatS {W : Nat} (x y : BitVec W) : BitVec W := saturateS W (sint x + sint y)

/-- Unsigned saturating addition (R276). -/
def addSatU {W : Nat} (x y : BitVec W) : BitVec W := saturateU W (uint x + uint y)

/-- Signed saturating subtraction (R277). -/
def subSatS {W : Nat} (x y : BitVec W) : BitVec W := saturateS W (sint x - sint y)

/-- Unsigned saturating subtraction (R277). -/
def subSatU {W : Nat} (x y : BitVec W) : BitVec W := saturateU W (uint x - uint y)

/-- The number of places a shift moves: `y mod S.LaneBits` (R278, R279). -/
def shiftAmount (W : Nat) (y : BitVec 8) : Nat := y.toNat % W

/-- A lane shifted left: `(x * 2^amount) mod 2^W` (R278). -/
def shiftLeft {W : Nat} (amount : Nat) (x : BitVec W) : BitVec W := reduce W (uint x * 2 ^ amount)

/-- A lane shifted right arithmetically: `floor(sint(x) / 2^amount)` (R279). `Int.fdiv` is the floor quotient. -/
def shiftRightS {W : Nat} (amount : Nat) (x : BitVec W) : BitVec W := reduce W ((sint x).fdiv (2 ^ amount))

/-- A lane shifted right logically: `floor(uint(x) / 2^amount)` (R279). -/
def shiftRightU {W : Nat} (amount : Nat) (x : BitVec W) : BitVec W := reduce W ((uint x).fdiv (2 ^ amount))

/-- Equality of patterns (45_comparisons.md R361). -/
def patEq {W : Nat} (x y : BitVec W) : Bool := x == y

/-- Inequality of patterns (R362). -/
def patNe {W : Nat} (x y : BitVec W) : Bool := !(x == y)

/-- `x < y` on signed lanes (R363). -/
def ltS {W : Nat} (x y : BitVec W) : Bool := decide (sint x < sint y)
/-- `x < y` on unsigned lanes (R363). -/
def ltU {W : Nat} (x y : BitVec W) : Bool := decide (uint x < uint y)
/-- `x <= y` on signed lanes (R364). -/
def leS {W : Nat} (x y : BitVec W) : Bool := decide (sint x ≤ sint y)
/-- `x <= y` on unsigned lanes (R364). -/
def leU {W : Nat} (x y : BitVec W) : Bool := decide (uint x ≤ uint y)
/-- `x > y` on signed lanes (R365). -/
def gtS {W : Nat} (x y : BitVec W) : Bool := decide (sint x > sint y)
/-- `x > y` on unsigned lanes (R365). -/
def gtU {W : Nat} (x y : BitVec W) : Bool := decide (uint x > uint y)
/-- `x >= y` on signed lanes (R366). -/
def geS {W : Nat} (x y : BitVec W) : Bool := decide (sint x ≥ sint y)
/-- `x >= y` on unsigned lanes (R366). -/
def geU {W : Nat} (x y : BitVec W) : Bool := decide (uint x ≥ uint y)

end Sys2Proof.Machine
end

