-- ==== Sys2Proof/Machine/Float.lean ====
section
/-! DEFINITION. Floating-point data and the functions of 40_fp_semantics.md: formats, classes, exact values, rounding, NaN
rules, subnormal flushing, the IEEE functions and the two wrappers. -/

namespace Sys2Proof.Machine

/-- A format of `W` bits: one sign bit, `expBits` of biased exponent, `fracBits` of trailing significand (R131, R132).
PRESUMED by the spec itself from IEEE 754-2008 (93_implementation_defined.md section 2; log entry 10). -/
structure Fmt (W : Nat) where
  expBits : Nat
  fracBits : Nat
deriving DecidableEq, Repr

/-- binary32 (40_fp_semantics.md R131). -/
def binary32 : Fmt 32 := ⟨8, 23⟩

/-- binary64 (R132). -/
def binary64 : Fmt 64 := ⟨11, 52⟩

/-- The four rounding modes are an operand of each operation that rounds (R135). The part of the exact value below the
last place: nothing, less than half a unit, exactly half, or more (the `rem` of R136 against 0 and 1/2). -/
inductive Tail where
  | exact
  | below
  | half
  | above
deriving DecidableEq, Repr

section
variable {W : Nat}

/-! ### Fields and classes (R131 to R134) -/

/-- `2^E - 1`, the biased exponent of infinities and NaNs (R133). -/
def Fmt.emask (f : Fmt W) : Nat := 2 ^ f.expBits - 1
/-- The exponent bias (R131, R132). -/
def Fmt.bias (f : Fmt W) : Nat := 2 ^ (f.expBits - 1) - 1
/-- `emax`, equal to the bias. -/
def Fmt.emax (f : Fmt W) : Int := f.bias
/-- `emin`. -/
def Fmt.emin (f : Fmt W) : Int := 1 - (f.bias : Int)
/-- `emin - T`, the exponent of the smallest subnormal: every finite datum is a whole number of units `2^(emin - T)`. -/
def Fmt.unit (f : Fmt W) : Int := f.emin - f.fracBits

/-- `signbit(x)` (R133). -/
def signbit (x : BitVec W) : Bool := x.msb
/-- The biased exponent field `e`. -/
def Fmt.expField (f : Fmt W) (x : BitVec W) : Nat := x.toNat / 2 ^ f.fracBits % 2 ^ f.expBits
/-- The trailing significand field `t`. -/
def Fmt.fracField (f : Fmt W) (x : BitVec W) : Nat := x.toNat % 2 ^ f.fracBits

/-- The pattern of given fields. -/
def Fmt.pack (f : Fmt W) (s : Bool) (e t : Nat) : BitVec W :=
  BitVec.ofNat W ((if s then 2 ^ (W - 1) else 0) + e * 2 ^ f.fracBits + t)

/-- `isnan(x)` (R133). -/
def Fmt.isnan (f : Fmt W) (x : BitVec W) : Bool := f.expField x == f.emask && f.fracField x != 0
/-- `isinf(x)` (R133). -/
def Fmt.isinf (f : Fmt W) (x : BitVec W) : Bool := f.expField x == f.emask && f.fracField x == 0
/-- A zero of either sign: `x == 0` (R133). -/
def Fmt.iszero (f : Fmt W) (x : BitVec W) : Bool := f.expField x == 0 && f.fracField x == 0
/-- A subnormal (R133). -/
def Fmt.issubnormal (f : Fmt W) (x : BitVec W) : Bool := f.expField x == 0 && f.fracField x != 0

/-- The zero of a sign. -/
def Fmt.zero (f : Fmt W) (s : Bool) : BitVec W := f.pack s 0 0
/-- The infinity of a sign. -/
def Fmt.inf (f : Fmt W) (s : Bool) : BitVec W := f.pack s f.emask 0
/-- The largest finite number, with a sign (R134). -/
def Fmt.maxFinite (f : Fmt W) (s : Bool) : BitVec W := f.pack s (f.emask - 1) (2 ^ f.fracBits - 1)

/-- The magnitude in units of `2^(emin - T)` (R134): `t` for a zero or a subnormal, `(2^T + t) * 2^(e-1)` otherwise. Read on
an infinity the same formula gives a number above every finite magnitude. -/
def Fmt.mag (f : Fmt W) (x : BitVec W) : Nat :=
  if f.expField x = 0 then f.fracField x else (2 ^ f.fracBits + f.fracField x) * 2 ^ (f.expField x - 1)

/-- `val(x)` of a finite datum in units of `2^(emin - T)`, an exact integer (R134). -/
def Fmt.val (f : Fmt W) (x : BitVec W) : Int := if signbit x then -(f.mag x : Int) else f.mag x

/-! ### Rounding (R135 to R138) -/

/-- A remainder `r / d` below one, against 0 and 1/2. -/
def tailOf (r d : Nat) : Tail :=
  if r = 0 then .exact else if 2 * r < d then .below else if 2 * r = d then .half else .above

/-- Whether the integer significand `m` is incremented (R136). -/
def incremented (rm : RoundingMode) (s : Bool) (m : Nat) (t : Tail) : Bool :=
  match rm with
  | .tiesToEven => t == .above || (t == .half && m % 2 == 1)
  | .towardPositive => !s && t != .exact
  | .towardNegative => s && t != .exact
  | .towardZero => false

/-- A result whose exponent exceeds `emax` (R137). -/
def Fmt.overflow (f : Fmt W) (rm : RoundingMode) (s : Bool) : BitVec W :=
  match rm with
  | .tiesToEven => f.inf s
  | .towardPositive => if s then f.maxFinite s else f.inf s
  | .towardNegative => if s then f.inf s else f.maxFinite s
  | .towardZero => f.maxFinite s

/-- The rounding of a non-zero magnitude `a` of sign `s` (R136), given `ex = floor(log2(a))` and, for an exponent `q`, the
integer part of `a / 2^q` with what is left below it. -/
def Fmt.roundWith (f : Fmt W) (rm : RoundingMode) (s : Bool) (ex : Int) (cut : Int → Nat × Tail) : BitVec W :=
  let q := max ex f.emin - (f.fracBits : Int)
  let c := cut q
  let m := if incremented rm s c.1 c.2 then c.1 + 1 else c.1
  let carried := m == 2 ^ (f.fracBits + 1)
  let m' := if carried then 2 ^ f.fracBits else m
  let q' := if carried then q + 1 else q
  if m' = 0 then f.zero s
  else if m' < 2 ^ f.fracBits then f.pack s 0 m'
  else if f.emax < q' + (f.fracBits : Int) then f.overflow rm s
  else f.pack s (q' + (f.fracBits : Int) + (f.bias : Int)).toNat (m' - 2 ^ f.fracBits)

/-- `floor(log2(num / den * 2^k))` for non-zero `num` and `den`. -/
def floorLog2 (num den : Nat) (k : Int) : Int :=
  let e : Int := (Nat.log2 num : Int) - (Nat.log2 den : Int)
  if den * 2 ^ e.toNat ≤ num * 2 ^ (-e).toNat then e + k else e - 1 + k

/-- `(num / den * 2^k) / 2^q`: its integer part, and what is left below it. -/
def cutRatio (num den : Nat) (k q : Int) : Nat × Tail :=
  let n := num * 2 ^ (k - q).toNat
  let d := den * 2 ^ (q - k).toNat
  (n / d, tailOf (n % d) d)

/-- `round(fmt, rmode, r)` for `r` of sign `s` and magnitude `num / den * 2^k`, not zero (R136). -/
def Fmt.roundRatio (f : Fmt W) (rm : RoundingMode) (s : Bool) (num den : Nat) (k : Int) : BitVec W :=
  f.roundWith rm s (floorLog2 num den k) (cutRatio num den k)

/-- The integer square root, found bit by bit: `b` bits still to try above the root `r` found so far. -/
def isqrtFrom (n : Nat) : Nat → Nat → Nat
  | 0, r => r
  | b + 1, r => if (r + 2 ^ b) * (r + 2 ^ b) ≤ n then isqrtFrom n b (r + 2 ^ b) else isqrtFrom n b r

/-- The largest integer whose square is at most `n`. -/
def isqrt (n : Nat) : Nat := isqrtFrom n (Nat.log2 n / 2 + 1) 0

/-- `sqrt(x * 2^k) / 2^q`: its integer part, and what is left below it. -/
def cutSqrt (x : Nat) (k q : Int) : Nat × Tail :=
  let n := x * 2 ^ (k - 2 * q).toNat
  let d := 2 ^ (2 * q - k).toNat
  let m := isqrt (n / d)
  (m,
    if m * m * d = n then .exact
    else if 4 * n < (2 * m + 1) * (2 * m + 1) * d then .below
    else if 4 * n = (2 * m + 1) * (2 * m + 1) * d then .half
    else .above)

/-! ### NaN rules and flushing (R141 to R148) -/

/-- `canonicalize_nan(x)`: the quiet bit set, sign and payload kept (R142). -/
def Fmt.quiet (f : Fmt W) (x : BitVec W) : BitVec W := x ||| BitVec.ofNat W (2 ^ (f.fracBits - 1))

/-- `default_nan()`: quiet, payload zero, sign by draw number `n`, positive when the draw is true (R141). -/
def Fmt.defaultNaN (f : Fmt W) (n : Nat) : BitVec W := f.pack (!Config.drawBool n) f.emask (2 ^ (f.fracBits - 1))

/-- `propagate_nan(x, y)`, one of the two being a NaN (R144). -/
def Fmt.propagateNaN (f : Fmt W) (n : Nat) (x y : BitVec W) : BitVec W :=
  if !f.isnan x then f.quiet y
  else if !f.isnan y then f.quiet x
  else if Config.drawBool n then f.quiet x else f.quiet y

/-- `flush(x)` when flushing holds: a subnormal becomes the zero of its sign (R148). -/
def Fmt.flush (f : Fmt W) (flushing : Bool) (x : BitVec W) : BitVec W :=
  if flushing && f.issubnormal x then f.zero (signbit x) else x

/-- `wrap_fp_unary(func, rmode)(x)` (R149). `func` answers `none` where the IEEE function gives a NaN. -/
def Fmt.wrapUnary (f : Fmt W) (flushing : Bool) (func : BitVec W → Option (BitVec W)) (n : Nat) (x : BitVec W) : BitVec W :=
  if f.isnan x then f.quiet x
  else
    match func (f.flush flushing x) with
    | some r => f.flush flushing r
    | none => f.defaultNaN n

/-- `wrap_fp_binary(func, rmode)(x, y)` (R150). -/
def Fmt.wrapBinary (f : Fmt W) (flushing : Bool) (func : BitVec W → BitVec W → Option (BitVec W)) (n : Nat)
    (x y : BitVec W) : BitVec W :=
  if f.isnan x || f.isnan y then f.propagateNaN n x y
  else
    match func (f.flush flushing x) (f.flush flushing y) with
    | some r => f.flush flushing r
    | none => f.defaultNaN n

/-! ### The IEEE functions (R151 to R159), on operands that are no NaNs; `none` is a NaN result -/

/-- `ieee.negate(x)` (R156). -/
def fpNegate (x : BitVec W) : BitVec W := x ^^^ BitVec.ofNat W (2 ^ (W - 1))

/-- `ieee.abs(x)` (R156). -/
def fpAbs (x : BitVec W) : BitVec W := x &&& BitVec.ofNat W (2 ^ (W - 1) - 1)

/-- The result for an exact sum of `z` units: rounded when it is not zero, and otherwise the zero of R151. -/
def Fmt.roundSum (f : Fmt W) (rm : RoundingMode) (x y : BitVec W) (z : Int) : BitVec W :=
  if z ≠ 0 then f.roundRatio rm (decide (z < 0)) z.natAbs 1 f.unit
  else if f.iszero x && f.iszero y && signbit x == signbit y then x
  else f.zero (rm == .towardNegative)

/-- `ieee.addition` (R151). -/
def Fmt.addition (f : Fmt W) (rm : RoundingMode) (x y : BitVec W) : Option (BitVec W) :=
  if f.isinf x && f.isinf y && signbit x != signbit y then none
  else if f.isinf x then some x
  else if f.isinf y then some y
  else some (f.roundSum rm x y (f.val x + f.val y))

/-- `ieee.subtraction` (R152). -/
def Fmt.subtraction (f : Fmt W) (rm : RoundingMode) (x y : BitVec W) : Option (BitVec W) :=
  f.addition rm x (fpNegate y)

/-- `ieee.multiplication` (R153). -/
def Fmt.multiplication (f : Fmt W) (rm : RoundingMode) (x y : BitVec W) : Option (BitVec W) :=
  let s := signbit x ^^ signbit y
  if (f.isinf x && f.iszero y) || (f.iszero x && f.isinf y) then none
  else if f.isinf x || f.isinf y then some (f.inf s)
  else if f.iszero x || f.iszero y then some (f.zero s)
  else some (f.roundRatio rm s (f.mag x * f.mag y) 1 (2 * f.unit))

/-- `ieee.division` (R154). -/
def Fmt.division (f : Fmt W) (rm : RoundingMode) (x y : BitVec W) : Option (BitVec W) :=
  let s := signbit x ^^ signbit y
  if f.isinf x && f.isinf y then none
  else if f.iszero x && f.iszero y then none
  else if f.isinf x then some (f.inf s)
  else if f.isinf y then some (f.zero s)
  else if f.iszero y then some (f.inf s)
  else if f.iszero x then some (f.zero s)
  else some (f.roundRatio rm s (f.mag x) (f.mag y) 0)

/-- `ieee.squareRoot` (R155). -/
def Fmt.squareRoot (f : Fmt W) (rm : RoundingMode) (x : BitVec W) : Option (BitVec W) :=
  if f.iszero x then some x
  else if signbit x then none
  else if f.isinf x then some x
  else some (f.roundWith rm false ((floorLog2 (f.mag x) 1 f.unit).fdiv 2) (cutSqrt (f.mag x) f.unit))

/-- `T.convertFromInt(z, rmode)` (R158). -/
def Fmt.convertFromInt (f : Fmt W) (rm : RoundingMode) (z : Int) : BitVec W :=
  if z = 0 then f.zero false else f.roundRatio rm (decide (z < 0)) z.natAbs 1 0

/-- `trunc(val(x))` of a finite datum: the value of `ieee.roundToIntegralTowardZero(x)` (R159). The unit is `2^(emin - T)`
with `emin - T` negative, so the magnitude is divided by `2^(T - emin)`. -/
def Fmt.truncated (f : Fmt W) (x : BitVec W) : Int :=
  let m : Nat := f.mag x / 2 ^ (-f.unit).toNat
  if signbit x then -(m : Int) else m

/-! ### Comparison predicates (R157) -/

/-- `x == y` on data: false when either is a NaN, otherwise equality of values, `-0` equal to `+0`. -/
def Fmt.eq (f : Fmt W) (x y : BitVec W) : Bool := !(f.isnan x || f.isnan y) && decide (f.val x = f.val y)
/-- `x != y`: the negation of `==`, so true when either is a NaN. -/
def Fmt.ne (f : Fmt W) (x y : BitVec W) : Bool := !(f.eq x y)
/-- `x < y`: false when either is a NaN; `-Inf` is below and `+Inf` above every finite number. -/
def Fmt.lt (f : Fmt W) (x y : BitVec W) : Bool := !(f.isnan x || f.isnan y) && decide (f.val x < f.val y)
/-- `x <= y`: false when either is a NaN. -/
def Fmt.le (f : Fmt W) (x y : BitVec W) : Bool := !(f.isnan x || f.isnan y) && decide (f.val x ≤ f.val y)
/-- `x > y`. -/
def Fmt.gt (f : Fmt W) (x y : BitVec W) : Bool := f.lt y x
/-- `x >= y`. -/
def Fmt.ge (f : Fmt W) (x y : BitVec W) : Bool := f.le y x

/-! ### Minimum and maximum (47_fp_sign_minmax.md R464 to R467) -/

/-- Zeros of opposite sign. -/
def Fmt.zerosDiffer (f : Fmt W) (x y : BitVec W) : Bool := f.iszero x && f.iszero y && signbit x != signbit y

/-- The smaller of two data that are no NaNs, `-0` below `+0`; `y` when they are equal. -/
def Fmt.lesser (f : Fmt W) (x y : BitVec W) : BitVec W :=
  if f.zerosDiffer x y then f.zero true else if f.lt x y then x else y

/-- The larger of two data that are no NaNs, `+0` above `-0`; `y` when they are equal. -/
def Fmt.greater (f : Fmt W) (x y : BitVec W) : BitVec W :=
  if f.zerosDiffer x y then f.zero false else if f.gt x y then x else y

/-- `min(x, y)` of R464. -/
def Fmt.min (f : Fmt W) (n : Nat) (x y : BitVec W) : BitVec W :=
  if f.isnan x || f.isnan y then f.propagateNaN n x y else f.lesser x y

/-- `max(x, y)` of R465. -/
def Fmt.max (f : Fmt W) (n : Nat) (x y : BitVec W) : BitVec W :=
  if f.isnan x || f.isnan y then f.propagateNaN n x y else f.greater x y

/-- `minNum(x, y)` of R466. -/
def Fmt.minNum (f : Fmt W) (n : Nat) (x y : BitVec W) : BitVec W :=
  if f.isnan x && f.isnan y then f.propagateNaN n x y
  else if f.isnan x then y else if f.isnan y then x else f.lesser x y

/-- `maxNum(x, y)` of R467. -/
def Fmt.maxNum (f : Fmt W) (n : Nat) (x y : BitVec W) : BitVec W :=
  if f.isnan x && f.isnan y then f.propagateNaN n x y
  else if f.isnan x then y else if f.isnan y then x else f.greater x y

/-! ### The approximations (48_fp_arith.md R506, R507) -/

/-- `recip_approx(x)` of R506: four cases are fixed, every other operand gives the free datum of draw number `n`. -/
def Fmt.recipApprox (f : Fmt W) (draw : Nat → BitVec W) (n : Nat) (x : BitVec W) : BitVec W :=
  if f.isnan x then f.quiet x
  else if f.iszero x then f.inf (signbit x)
  else if f.isinf x then f.zero (signbit x)
  else draw n

/-- `recip_sqrt_approx(x)` of R507: the same fixed cases, `-Inf` to `-0` included (90_conflicts.md C10), and a free datum for
every other operand, the negative ones included. -/
def Fmt.rsqrtApprox (f : Fmt W) (draw : Nat → BitVec W) (n : Nat) (x : BitVec W) : BitVec W :=
  if f.isnan x then f.quiet x
  else if f.iszero x then f.inf (signbit x)
  else if f.isinf x then f.zero (signbit x)
  else draw n

/-! ### Conversion to integers (49_conversions.md R552) -/

/-- One lane of `fromFloat` with destination range `lo .. hi`: `none` where the lane is a NaN or an infinity or its truncated
value is out of range. -/
def Fmt.toInteger (f : Fmt W) (lo hi : Int) (x : BitVec W) : Option (BitVec W) :=
  if f.isnan x || f.isinf x then none
  else if lo ≤ f.truncated x ∧ f.truncated x ≤ hi then some (reduce W (f.truncated x)) else none

end

end Sys2Proof.Machine
end

