-- ==== Sys2Proof/Machine/Operands.lean ====
section
/-! DEFINITION. Operands: how each kind is read (30_encoding.md R104, R107), the checks and the fault that come before an
operation (R108, R109, 60_exceptions.md R604, R607), and the shared shape of a statement's execution (R109). -/

namespace Sys2Proof.Machine

/-- What reading operands gives. -/
inductive Got (α : Type) where
  /-- Every operand has a value. -/
  | val (a : α)
  /-- The first slot operand, in signature order, that no statement has written (60_exceptions.md R604, R607). -/
  | unwritten (x : Ident)
  /-- An operand is not of the type of the signature: the statement is no instruction (30_encoding.md R108). -/
  | illTyped
deriving DecidableEq, Repr

/-- Two operands read in order. An ill-typed operand is found before the run, so it comes before any unwritten slot. -/
def Got.both {α β : Type} : Got α → Got β → Got (α × β)
  | .illTyped, _ => .illTyped
  | _, .illTyped => .illTyped
  | .unwritten x, _ => .unwritten x
  | .val _, .unwritten x => .unwritten x
  | .val a, .val b => .val (a, b)

/-- The value read, transformed. -/
def Got.map {α β : Type} (f : α → β) : Got α → Got β
  | .val a => .val (f a)
  | .unwritten x => .unwritten x
  | .illTyped => .illTyped

/-- Whether an operand was ill-typed. -/
def Got.ill {α : Type} : Got α → Bool
  | .illTyped => true
  | _ => false

/-- One of the twelve types of values: its name, how a value of it stands in a slot, and the value of its literals. -/
structure Kind (lit val : Type) where
  ty : Ty
  inj : val → Value
  proj : Value → Option val
  ofLit : LaneMapping → lit → val

/-- `v128` (10_state.md R35). -/
def kV128 : Kind V128Lit V128 := ⟨.v128, .v128, fun | .v128 v => some v | _ => none, literalValue⟩
/-- `b8x16` (R36). -/
def kB8x16 : Kind (Lanes Bool 16) (Lanes Bool 16) := ⟨.b8x16, .b8x16, fun | .b8x16 v => some v | _ => none, fun _ v => v⟩
/-- `b16x8` (R36). -/
def kB16x8 : Kind (Lanes Bool 8) (Lanes Bool 8) := ⟨.b16x8, .b16x8, fun | .b16x8 v => some v | _ => none, fun _ v => v⟩
/-- `b32x4` (R36). -/
def kB32x4 : Kind (Lanes Bool 4) (Lanes Bool 4) := ⟨.b32x4, .b32x4, fun | .b32x4 v => some v | _ => none, fun _ v => v⟩
/-- `b64x2` (R36). -/
def kB64x2 : Kind (Lanes Bool 2) (Lanes Bool 2) := ⟨.b64x2, .b64x2, fun | .b64x2 v => some v | _ => none, fun _ v => v⟩
/-- `i8` (R30). -/
def kI8 : Kind (BitVec 8) (BitVec 8) := ⟨.i8, .i8, fun | .i8 v => some v | _ => none, fun _ v => v⟩
/-- `i16` (R30). -/
def kI16 : Kind (BitVec 16) (BitVec 16) := ⟨.i16, .i16, fun | .i16 v => some v | _ => none, fun _ v => v⟩
/-- `i32` (R30). -/
def kI32 : Kind (BitVec 32) (BitVec 32) := ⟨.i32, .i32, fun | .i32 v => some v | _ => none, fun _ v => v⟩
/-- `i64` (R30). -/
def kI64 : Kind (BitVec 64) (BitVec 64) := ⟨.i64, .i64, fun | .i64 v => some v | _ => none, fun _ v => v⟩
/-- `f32` (R31). -/
def kF32 : Kind (BitVec 32) (BitVec 32) := ⟨.f32, .f32, fun | .f32 v => some v | _ => none, fun _ v => v⟩
/-- `f64` (R31). -/
def kF64 : Kind (BitVec 64) (BitVec 64) := ⟨.f64, .f64, fun | .f64 v => some v | _ => none, fun _ v => v⟩
/-- `boolean` (R32). -/
def kBool : Kind Bool Bool := ⟨.boolean, .boolean, fun | .boolean v => some v | _ => none, fun _ v => v⟩

/-- One vector or scalar operand read: a literal, or the content of a slot (30_encoding.md R104, R107). -/
def read {lit val : Type} (k : Kind lit val) (s : State) : Operand lit → Got val
  | .lit l => .val (k.ofLit s.params.laneMapping l)
  | .slot x =>
    match s.slot x with
    | none => .unwritten x
    | some v =>
      match k.proj v with
      | some a => .val a
      | none => .illTyped

/-- A list of operands read in order, the length kept. -/
def readList {lit val : Type} (k : Kind lit val) (s : State) :
    (os : List (Operand lit)) → Got (Lanes val os.length)
  | [] => .val ⟨[], rfl⟩
  | o :: r => ((read k s o).both (readList k s r)).map fun p => ⟨p.1 :: p.2.toList, by simp [p.2.size]⟩

/-- An array operand `T[L]` (R104). -/
def readArray {lit val : Type} {n : Nat} (k : Kind lit val) (s : State) (os : Lanes (Operand lit) n) :
    Got (Lanes val n) :=
  (readList k s os.toList).map fun p => ⟨p.toList, by rw [p.size, os.size]⟩

/-- A ByteOffset operand: a number of the type `0 .. 2^OFFSET_BITS - 1` (20_memory.md R70). A number outside it is no value
of the type (30_encoding.md R108 `operand_types`; log entry 9). -/
def readOffset (s : State) (addr : Nat) : Got Nat :=
  if addr < 2 ^ s.params.offsetBits then .val addr else .illTyped

/-- What comes before every operation (30_encoding.md R108, R109, 60_exceptions.md R605, R607): the checks of
well-formedness, each refusing by its name, and then `UnwrittenSlot` for the first unwritten slot operand. The checks
cannot fail in a run, because `step` refuses an ill-formed program before it (log entry 8). -/
def withOperands {α : Type} (s : State) (ds : List (Ident × Ty)) (mem : Option Ident) (g : Got α) (k : α → Out) : Out :=
  if g.ill then .refused (.illFormed .operandTypes)
  else if !(ds.all fun d => s.accepts d.1 d.2) then .refused (.illFormed .destinationTypes)
  else if !(match mem with | some m => (s.buffer m).isSome | none => true) then .refused (.illFormed .bufferKnown)
  else if !distinctNames (ds.map Prod.fst) then .refused (.illFormed .distinctDestinations)
  else
    match g with
    | .val a => k a
    | .unwritten x => .next (s.raise (.unwrittenSlot x))
    | .illTyped => .refused (.illFormed .operandTypes)

/-! ### The shapes of statements (30_encoding.md R103, R109) -/

/-- A statement of one operand and one result. -/
def exec1 {α val lit : Type} (s : State) (d : Ident) (k : Kind lit val) (g : Got α) (f : α → val) : Out :=
  withOperands s [(d, k.ty)] none g fun a => .next (s.retire d (k.inj (f a)))

/-- A statement of one `v128` result whose lanes may draw: `n` draws are used up (log entry 5). -/
def execDraw {α : Type} (s : State) (d : Ident) (n : Nat) (g : Got α) (f : Nat → α → V128) : Out :=
  withOperands s [(d, .v128)] none g fun a => .next ((s.retire d (.v128 (f s.draws a))).drew n)

/-- A statement `UN`: one `v128` operand, one `v128` result. -/
def unary (s : State) (d : Ident) (a : VOperand) (f : V128 → V128) : Out := exec1 s d kV128 (read kV128 s a) f

/-- A statement `BIN`: two `v128` operands, one `v128` result. -/
def binary (s : State) (d : Ident) (a b : VOperand) (f : V128 → V128 → V128) : Out :=
  exec1 s d kV128 ((read kV128 s a).both (read kV128 s b)) fun p => f p.1 p.2

/-- A statement `SELECT`: a boolean vector and two `v128` operands, one `v128` result. -/
def ternary {n : Nat} (s : State) (d : Ident) (k : Kind (Lanes Bool n) (Lanes Bool n)) (c : Operand (Lanes Bool n))
    (t f : VOperand) (g : Lanes Bool n → V128 → V128 → V128) : Out :=
  exec1 s d kV128 ((read k s c).both ((read kV128 s t).both (read kV128 s f))) fun p => g p.1 p.2.1 p.2.2

/-- A statement of one `v128` operand whose `n` lanes may draw. -/
def drawUnary (s : State) (d : Ident) (n : Nat) (a : VOperand) (f : Nat → V128 → V128) : Out :=
  execDraw s d n (read kV128 s a) f

/-- A statement of two `v128` operands whose `n` lanes may draw. -/
def drawBinary (s : State) (d : Ident) (n : Nat) (a b : VOperand) (f : Nat → V128 → V128 → V128) : Out :=
  execDraw s d n ((read kV128 s a).both (read kV128 s b)) fun k p => f k p.1 p.2

/-- A load statement of `L` lanes of width `W` (46_load_store.md R431, R433): the range check, then the lanes read; lanes
not loaded are zero. -/
def execLoadLanes (s : State) (d mem : Ident) (addr : Nat) (W L : Nat) : Out :=
  withOperands s [(d, .v128)] (some mem) (readOffset s addr) fun a =>
    match s.buffer mem with
    | none => .refused (.illFormed .bufferKnown)
    | some b =>
      if inRange s.params b a (L * (W / 8)) then
        .next (s.retire d (.v128 (ofLanes s.params.laneMapping (loadLanes s.params.laneMapping W L b a))))
      else .next (s.raise (.bufferRange mem a (L * (W / 8))))

/-- A store statement of the first `L` lanes of width `W` (R432, R434): the range check, then the lanes written; there is
no destination slot. -/
def execStoreLanes (s : State) (mem : Ident) (addr : Nat) (data : VOperand) (W L : Nat) : Out :=
  withOperands s [] (some mem) ((readOffset s addr).both (read kV128 s data)) fun p =>
    match s.buffer mem with
    | none => .refused (.illFormed .bufferKnown)
    | some b =>
      if inRange s.params b p.1 (L * (W / 8)) then
        .next (s.setBuffer mem (storeLanes s.params.laneMapping b p.1
          ((lanes s.params.laneMapping W p.2).take L))).advance
      else .next (s.raise (.bufferRange mem p.1 (L * (W / 8))))

/-- The `fromFloat` statement (49_conversions.md R552): two results, `result` first; one draw is used up. -/
def execCvt (s : State) (d1 d2 : Ident) (g : Got V128) (f : Nat → V128 → V128 × Bool) : Out :=
  withOperands s [(d1, .v128), (d2, .boolean)] none g fun a =>
    let r := f s.draws a
    .next (((s.putAll [(d1, .v128 r.1), (d2, .boolean r.2)]).advance).drew 1)

end Sys2Proof.Machine
end

