-- ==== Sys2Proof/Machine/Comparisons.lean ====
section
/-! DEFINITION. The meanings of the comparisons (45_comparisons.md), one definition per operation (R370 to R421). -/

namespace Sys2Proof.Machine

/-- A comparison of two `v128` operands: a boolean vector (45_comparisons.md R360). -/
def comparison {n : Nat} (s : State) (d : Ident) (k : Kind (Lanes Bool n) (Lanes Bool n)) (a b : VOperand)
    (f : V128 → V128 → Lanes Bool n) : Out :=
  exec1 s d k ((read kV128 s a).both (read kV128 s b)) fun p => f p.1 p.2

/-- `i8x16.equal` (R370): compares the patterns of the lanes (R361). -/
def execI8x16Equal (d : Ident) (a b : VOperand) (s : State) : Out :=
  comparison s d kB8x16 a b (lanewiseCompare s.params.laneMapping 8 16 patEq)

/-- `i16x8.equal` (R371): compares the patterns of the lanes (R361). -/
def execI16x8Equal (d : Ident) (a b : VOperand) (s : State) : Out :=
  comparison s d kB16x8 a b (lanewiseCompare s.params.laneMapping 16 8 patEq)

/-- `i32x4.equal` (R372): compares the patterns of the lanes (R361). -/
def execI32x4Equal (d : Ident) (a b : VOperand) (s : State) : Out :=
  comparison s d kB32x4 a b (lanewiseCompare s.params.laneMapping 32 4 patEq)

/-- `i64x2.equal` (R373): compares the patterns of the lanes (R361). -/
def execI64x2Equal (d : Ident) (a b : VOperand) (s : State) : Out :=
  comparison s d kB64x2 a b (lanewiseCompare s.params.laneMapping 64 2 patEq)

/-- `f32x4.equal` (R374): compares the lanes as floating-point data (R157, R367) (R361). -/
def execF32x4Equal (d : Ident) (a b : VOperand) (s : State) : Out :=
  comparison s d kB32x4 a b (lanewiseCompare s.params.laneMapping 32 4 binary32.eq)

/-- `f64x2.equal` (R375): compares the lanes as floating-point data (R157, R367) (R361). -/
def execF64x2Equal (d : Ident) (a b : VOperand) (s : State) : Out :=
  comparison s d kB64x2 a b (lanewiseCompare s.params.laneMapping 64 2 binary64.eq)

/-- `i8x16.notEqual` (R376): compares the patterns of the lanes (R362). -/
def execI8x16NotEqual (d : Ident) (a b : VOperand) (s : State) : Out :=
  comparison s d kB8x16 a b (lanewiseCompare s.params.laneMapping 8 16 patNe)

/-- `i16x8.notEqual` (R377): compares the patterns of the lanes (R362). -/
def execI16x8NotEqual (d : Ident) (a b : VOperand) (s : State) : Out :=
  comparison s d kB16x8 a b (lanewiseCompare s.params.laneMapping 16 8 patNe)

/-- `i32x4.notEqual` (R378): compares the patterns of the lanes (R362). -/
def execI32x4NotEqual (d : Ident) (a b : VOperand) (s : State) : Out :=
  comparison s d kB32x4 a b (lanewiseCompare s.params.laneMapping 32 4 patNe)

/-- `i64x2.notEqual` (R379): compares the patterns of the lanes (R362). -/
def execI64x2NotEqual (d : Ident) (a b : VOperand) (s : State) : Out :=
  comparison s d kB64x2 a b (lanewiseCompare s.params.laneMapping 64 2 patNe)

/-- `f32x4.notEqual` (R380): compares the lanes as floating-point data (R157, R367) (R362). -/
def execF32x4NotEqual (d : Ident) (a b : VOperand) (s : State) : Out :=
  comparison s d kB32x4 a b (lanewiseCompare s.params.laneMapping 32 4 binary32.ne)

/-- `f64x2.notEqual` (R381): compares the lanes as floating-point data (R157, R367) (R362). -/
def execF64x2NotEqual (d : Ident) (a b : VOperand) (s : State) : Out :=
  comparison s d kB64x2 a b (lanewiseCompare s.params.laneMapping 64 2 binary64.ne)

/-- `s8x16.lessThan` (R382): compares the lanes as signed integers (R363). -/
def execS8x16LessThan (d : Ident) (a b : VOperand) (s : State) : Out :=
  comparison s d kB8x16 a b (lanewiseCompare s.params.laneMapping 8 16 ltS)

/-- `s16x8.lessThan` (R383): compares the lanes as signed integers (R363). -/
def execS16x8LessThan (d : Ident) (a b : VOperand) (s : State) : Out :=
  comparison s d kB16x8 a b (lanewiseCompare s.params.laneMapping 16 8 ltS)

/-- `s32x4.lessThan` (R384): compares the lanes as signed integers (R363). -/
def execS32x4LessThan (d : Ident) (a b : VOperand) (s : State) : Out :=
  comparison s d kB32x4 a b (lanewiseCompare s.params.laneMapping 32 4 ltS)

/-- `s64x2.lessThan` (R385): compares the lanes as signed integers (R363). -/
def execS64x2LessThan (d : Ident) (a b : VOperand) (s : State) : Out :=
  comparison s d kB64x2 a b (lanewiseCompare s.params.laneMapping 64 2 ltS)

/-- `u8x16.lessThan` (R386): compares the lanes as unsigned integers (R363). -/
def execU8x16LessThan (d : Ident) (a b : VOperand) (s : State) : Out :=
  comparison s d kB8x16 a b (lanewiseCompare s.params.laneMapping 8 16 ltU)

/-- `u16x8.lessThan` (R387): compares the lanes as unsigned integers (R363). -/
def execU16x8LessThan (d : Ident) (a b : VOperand) (s : State) : Out :=
  comparison s d kB16x8 a b (lanewiseCompare s.params.laneMapping 16 8 ltU)

/-- `u32x4.lessThan` (R388): compares the lanes as unsigned integers (R363). -/
def execU32x4LessThan (d : Ident) (a b : VOperand) (s : State) : Out :=
  comparison s d kB32x4 a b (lanewiseCompare s.params.laneMapping 32 4 ltU)

/-- `u64x2.lessThan` (R389): compares the lanes as unsigned integers (R363). -/
def execU64x2LessThan (d : Ident) (a b : VOperand) (s : State) : Out :=
  comparison s d kB64x2 a b (lanewiseCompare s.params.laneMapping 64 2 ltU)

/-- `f32x4.lessThan` (R390): compares the lanes as floating-point data (R157, R367) (R363). -/
def execF32x4LessThan (d : Ident) (a b : VOperand) (s : State) : Out :=
  comparison s d kB32x4 a b (lanewiseCompare s.params.laneMapping 32 4 binary32.lt)

/-- `f64x2.lessThan` (R391): compares the lanes as floating-point data (R157, R367) (R363). -/
def execF64x2LessThan (d : Ident) (a b : VOperand) (s : State) : Out :=
  comparison s d kB64x2 a b (lanewiseCompare s.params.laneMapping 64 2 binary64.lt)

/-- `s8x16.lessThanOrEqual` (R392): compares the lanes as signed integers (R364). -/
def execS8x16LessThanOrEqual (d : Ident) (a b : VOperand) (s : State) : Out :=
  comparison s d kB8x16 a b (lanewiseCompare s.params.laneMapping 8 16 leS)

/-- `s16x8.lessThanOrEqual` (R393): compares the lanes as signed integers (R364). -/
def execS16x8LessThanOrEqual (d : Ident) (a b : VOperand) (s : State) : Out :=
  comparison s d kB16x8 a b (lanewiseCompare s.params.laneMapping 16 8 leS)

/-- `s32x4.lessThanOrEqual` (R394): compares the lanes as signed integers (R364). -/
def execS32x4LessThanOrEqual (d : Ident) (a b : VOperand) (s : State) : Out :=
  comparison s d kB32x4 a b (lanewiseCompare s.params.laneMapping 32 4 leS)

/-- `s64x2.lessThanOrEqual` (R395): compares the lanes as signed integers (R364). -/
def execS64x2LessThanOrEqual (d : Ident) (a b : VOperand) (s : State) : Out :=
  comparison s d kB64x2 a b (lanewiseCompare s.params.laneMapping 64 2 leS)

/-- `u8x16.lessThanOrEqual` (R396): compares the lanes as unsigned integers (R364). -/
def execU8x16LessThanOrEqual (d : Ident) (a b : VOperand) (s : State) : Out :=
  comparison s d kB8x16 a b (lanewiseCompare s.params.laneMapping 8 16 leU)

/-- `u16x8.lessThanOrEqual` (R397): compares the lanes as unsigned integers (R364). -/
def execU16x8LessThanOrEqual (d : Ident) (a b : VOperand) (s : State) : Out :=
  comparison s d kB16x8 a b (lanewiseCompare s.params.laneMapping 16 8 leU)

/-- `u32x4.lessThanOrEqual` (R398): compares the lanes as unsigned integers (R364). -/
def execU32x4LessThanOrEqual (d : Ident) (a b : VOperand) (s : State) : Out :=
  comparison s d kB32x4 a b (lanewiseCompare s.params.laneMapping 32 4 leU)

/-- `u64x2.lessThanOrEqual` (R399): compares the lanes as unsigned integers (R364). -/
def execU64x2LessThanOrEqual (d : Ident) (a b : VOperand) (s : State) : Out :=
  comparison s d kB64x2 a b (lanewiseCompare s.params.laneMapping 64 2 leU)

/-- `f32x4.lessThanOrEqual` (R400): compares the lanes as floating-point data (R157, R367) (R364). -/
def execF32x4LessThanOrEqual (d : Ident) (a b : VOperand) (s : State) : Out :=
  comparison s d kB32x4 a b (lanewiseCompare s.params.laneMapping 32 4 binary32.le)

/-- `f64x2.lessThanOrEqual` (R401): compares the lanes as floating-point data (R157, R367) (R364). -/
def execF64x2LessThanOrEqual (d : Ident) (a b : VOperand) (s : State) : Out :=
  comparison s d kB64x2 a b (lanewiseCompare s.params.laneMapping 64 2 binary64.le)

/-- `s8x16.greaterThan` (R402): compares the lanes as signed integers (R365). -/
def execS8x16GreaterThan (d : Ident) (a b : VOperand) (s : State) : Out :=
  comparison s d kB8x16 a b (lanewiseCompare s.params.laneMapping 8 16 gtS)

/-- `s16x8.greaterThan` (R403): compares the lanes as signed integers (R365). -/
def execS16x8GreaterThan (d : Ident) (a b : VOperand) (s : State) : Out :=
  comparison s d kB16x8 a b (lanewiseCompare s.params.laneMapping 16 8 gtS)

/-- `s32x4.greaterThan` (R404): compares the lanes as signed integers (R365). -/
def execS32x4GreaterThan (d : Ident) (a b : VOperand) (s : State) : Out :=
  comparison s d kB32x4 a b (lanewiseCompare s.params.laneMapping 32 4 gtS)

/-- `s64x2.greaterThan` (R405): compares the lanes as signed integers (R365). -/
def execS64x2GreaterThan (d : Ident) (a b : VOperand) (s : State) : Out :=
  comparison s d kB64x2 a b (lanewiseCompare s.params.laneMapping 64 2 gtS)

/-- `u8x16.greaterThan` (R406): compares the lanes as unsigned integers (R365). -/
def execU8x16GreaterThan (d : Ident) (a b : VOperand) (s : State) : Out :=
  comparison s d kB8x16 a b (lanewiseCompare s.params.laneMapping 8 16 gtU)

/-- `u16x8.greaterThan` (R407): compares the lanes as unsigned integers (R365). -/
def execU16x8GreaterThan (d : Ident) (a b : VOperand) (s : State) : Out :=
  comparison s d kB16x8 a b (lanewiseCompare s.params.laneMapping 16 8 gtU)

/-- `u32x4.greaterThan` (R408): compares the lanes as unsigned integers (R365). -/
def execU32x4GreaterThan (d : Ident) (a b : VOperand) (s : State) : Out :=
  comparison s d kB32x4 a b (lanewiseCompare s.params.laneMapping 32 4 gtU)

/-- `u64x2.greaterThan` (R409): compares the lanes as unsigned integers (R365). -/
def execU64x2GreaterThan (d : Ident) (a b : VOperand) (s : State) : Out :=
  comparison s d kB64x2 a b (lanewiseCompare s.params.laneMapping 64 2 gtU)

/-- `f32x4.greaterThan` (R410): compares the lanes as floating-point data (R157, R367) (R365). -/
def execF32x4GreaterThan (d : Ident) (a b : VOperand) (s : State) : Out :=
  comparison s d kB32x4 a b (lanewiseCompare s.params.laneMapping 32 4 binary32.gt)

/-- `f64x2.greaterThan` (R411): compares the lanes as floating-point data (R157, R367) (R365). -/
def execF64x2GreaterThan (d : Ident) (a b : VOperand) (s : State) : Out :=
  comparison s d kB64x2 a b (lanewiseCompare s.params.laneMapping 64 2 binary64.gt)

/-- `s8x16.greaterThanOrEqual` (R412): compares the lanes as signed integers (R366). -/
def execS8x16GreaterThanOrEqual (d : Ident) (a b : VOperand) (s : State) : Out :=
  comparison s d kB8x16 a b (lanewiseCompare s.params.laneMapping 8 16 geS)

/-- `s16x8.greaterThanOrEqual` (R413): compares the lanes as signed integers (R366). -/
def execS16x8GreaterThanOrEqual (d : Ident) (a b : VOperand) (s : State) : Out :=
  comparison s d kB16x8 a b (lanewiseCompare s.params.laneMapping 16 8 geS)

/-- `s32x4.greaterThanOrEqual` (R414): compares the lanes as signed integers (R366). -/
def execS32x4GreaterThanOrEqual (d : Ident) (a b : VOperand) (s : State) : Out :=
  comparison s d kB32x4 a b (lanewiseCompare s.params.laneMapping 32 4 geS)

/-- `s64x2.greaterThanOrEqual` (R415): compares the lanes as signed integers (R366). -/
def execS64x2GreaterThanOrEqual (d : Ident) (a b : VOperand) (s : State) : Out :=
  comparison s d kB64x2 a b (lanewiseCompare s.params.laneMapping 64 2 geS)

/-- `u8x16.greaterThanOrEqual` (R416): compares the lanes as unsigned integers (R366). -/
def execU8x16GreaterThanOrEqual (d : Ident) (a b : VOperand) (s : State) : Out :=
  comparison s d kB8x16 a b (lanewiseCompare s.params.laneMapping 8 16 geU)

/-- `u16x8.greaterThanOrEqual` (R417): compares the lanes as unsigned integers (R366). -/
def execU16x8GreaterThanOrEqual (d : Ident) (a b : VOperand) (s : State) : Out :=
  comparison s d kB16x8 a b (lanewiseCompare s.params.laneMapping 16 8 geU)

/-- `u32x4.greaterThanOrEqual` (R418): compares the lanes as unsigned integers (R366). -/
def execU32x4GreaterThanOrEqual (d : Ident) (a b : VOperand) (s : State) : Out :=
  comparison s d kB32x4 a b (lanewiseCompare s.params.laneMapping 32 4 geU)

/-- `u64x2.greaterThanOrEqual` (R419): compares the lanes as unsigned integers (R366). -/
def execU64x2GreaterThanOrEqual (d : Ident) (a b : VOperand) (s : State) : Out :=
  comparison s d kB64x2 a b (lanewiseCompare s.params.laneMapping 64 2 geU)

/-- `f32x4.greaterThanOrEqual` (R420): compares the lanes as floating-point data (R157, R367) (R366). -/
def execF32x4GreaterThanOrEqual (d : Ident) (a b : VOperand) (s : State) : Out :=
  comparison s d kB32x4 a b (lanewiseCompare s.params.laneMapping 32 4 binary32.ge)

/-- `f64x2.greaterThanOrEqual` (R421): compares the lanes as floating-point data (R157, R367) (R366). -/
def execF64x2GreaterThanOrEqual (d : Ident) (a b : VOperand) (s : State) : Out :=
  comparison s d kB64x2 a b (lanewiseCompare s.params.laneMapping 64 2 binary64.ge)

end Sys2Proof.Machine
end

