-- ==== Sys2Proof/Machine/Construct.lean ====
section
/-! DEFINITION. The meanings of build and splat (41_construct.md), one definition per operation (R202 to R221). -/

namespace Sys2Proof.Machine

/-- `build` for numerical lanes (41_construct.md R200): element k of the array goes to lane k. -/
def buildPatterns {W n : Nat} (s : State) (d : Ident) (k : Kind (BitVec W) (BitVec W))
    (x : Lanes (Operand (BitVec W)) n) : Out :=
  exec1 s d kV128 (readArray k s x) fun v => ofLanes s.params.laneMapping v.toList

/-- `build` for boolean lanes (R200). -/
def buildBooleans {n : Nat} (s : State) (d : Ident) (k : Kind (Lanes Bool n) (Lanes Bool n))
    (x : Lanes (Operand Bool) n) : Out :=
  exec1 s d k (readArray kBool s x) fun v => v

/-- `splat` for numerical lanes (R201). -/
def splatPattern {W : Nat} (s : State) (d : Ident) (k : Kind (BitVec W) (BitVec W)) (x : Operand (BitVec W)) : Out :=
  exec1 s d kV128 (read k s x) fun p => buildLanes s.params.laneMapping W fun _ => p

/-- `splat` for boolean lanes (R201). -/
def splatBoolean {n : Nat} (s : State) (d : Ident) (k : Kind (Lanes Bool n) (Lanes Bool n)) (x : Operand Bool) : Out :=
  exec1 s d k (read kBool s x) fun b => Lanes.replicate n b

/-- `b8x16.build` (R202): element k of `x` goes to lane k (R200). -/
def execB8x16Build (d : Ident) (x : Lanes (Operand Bool) 16) (s : State) : Out :=
  buildBooleans s d kB8x16 x

/-- `b16x8.build` (R203): element k of `x` goes to lane k (R200). -/
def execB16x8Build (d : Ident) (x : Lanes (Operand Bool) 8) (s : State) : Out :=
  buildBooleans s d kB16x8 x

/-- `b32x4.build` (R204): element k of `x` goes to lane k (R200). -/
def execB32x4Build (d : Ident) (x : Lanes (Operand Bool) 4) (s : State) : Out :=
  buildBooleans s d kB32x4 x

/-- `b64x2.build` (R205): element k of `x` goes to lane k (R200). -/
def execB64x2Build (d : Ident) (x : Lanes (Operand Bool) 2) (s : State) : Out :=
  buildBooleans s d kB64x2 x

/-- `i8x16.build` (R206): element k of `x` goes to lane k (R200). -/
def execI8x16Build (d : Ident) (x : Lanes (Operand (BitVec 8)) 16) (s : State) : Out :=
  buildPatterns s d kI8 x

/-- `i16x8.build` (R207): element k of `x` goes to lane k (R200). -/
def execI16x8Build (d : Ident) (x : Lanes (Operand (BitVec 16)) 8) (s : State) : Out :=
  buildPatterns s d kI16 x

/-- `i32x4.build` (R208): element k of `x` goes to lane k (R200). -/
def execI32x4Build (d : Ident) (x : Lanes (Operand (BitVec 32)) 4) (s : State) : Out :=
  buildPatterns s d kI32 x

/-- `i64x2.build` (R209): element k of `x` goes to lane k (R200). -/
def execI64x2Build (d : Ident) (x : Lanes (Operand (BitVec 64)) 2) (s : State) : Out :=
  buildPatterns s d kI64 x

/-- `f32x4.build` (R210): element k of `x` goes to lane k (R200). -/
def execF32x4Build (d : Ident) (x : Lanes (Operand (BitVec 32)) 4) (s : State) : Out :=
  buildPatterns s d kF32 x

/-- `f64x2.build` (R211): element k of `x` goes to lane k (R200). -/
def execF64x2Build (d : Ident) (x : Lanes (Operand (BitVec 64)) 2) (s : State) : Out :=
  buildPatterns s d kF64 x

/-- `b8x16.splat` (R212): every lane is `x` (R201). -/
def execB8x16Splat (d : Ident) (x : Operand Bool) (s : State) : Out :=
  splatBoolean s d kB8x16 x

/-- `b16x8.splat` (R213): every lane is `x` (R201). -/
def execB16x8Splat (d : Ident) (x : Operand Bool) (s : State) : Out :=
  splatBoolean s d kB16x8 x

/-- `b32x4.splat` (R214): every lane is `x` (R201). -/
def execB32x4Splat (d : Ident) (x : Operand Bool) (s : State) : Out :=
  splatBoolean s d kB32x4 x

/-- `b64x2.splat` (R215): every lane is `x` (R201). -/
def execB64x2Splat (d : Ident) (x : Operand Bool) (s : State) : Out :=
  splatBoolean s d kB64x2 x

/-- `i8x16.splat` (R216): every lane is `x` (R201). -/
def execI8x16Splat (d : Ident) (x : Operand (BitVec 8)) (s : State) : Out :=
  splatPattern s d kI8 x

/-- `i16x8.splat` (R217): every lane is `x` (R201). -/
def execI16x8Splat (d : Ident) (x : Operand (BitVec 16)) (s : State) : Out :=
  splatPattern s d kI16 x

/-- `i32x4.splat` (R218): every lane is `x` (R201). -/
def execI32x4Splat (d : Ident) (x : Operand (BitVec 32)) (s : State) : Out :=
  splatPattern s d kI32 x

/-- `i64x2.splat` (R219): every lane is `x` (R201). -/
def execI64x2Splat (d : Ident) (x : Operand (BitVec 64)) (s : State) : Out :=
  splatPattern s d kI64 x

/-- `f32x4.splat` (R220): every lane is `x` (R201). -/
def execF32x4Splat (d : Ident) (x : Operand (BitVec 32)) (s : State) : Out :=
  splatPattern s d kF32 x

/-- `f64x2.splat` (R221): every lane is `x` (R201). -/
def execF64x2Splat (d : Ident) (x : Operand (BitVec 64)) (s : State) : Out :=
  splatPattern s d kF64 x

end Sys2Proof.Machine
end

