-- ==== Sys2Proof/Machine/Conversions.lean ====
section
/-! DEFINITION. The meanings of conversions between integers and floating-point data (49_conversions.md), one definition per operation (R553 to R560). -/

namespace Sys2Proof.Machine

/-- `S.fromFloat` on all lanes (49_conversions.md R552): when every lane has an integer, those; otherwise one free vector,
draw number `n`, and `fail`. -/
def convertLanes {W : Nat} (m : LaneMapping) (f : Fmt W) (lo hi : Int) (n : Nat) (v : V128) : V128 × Bool :=
  let rs := (lanes m W v).map (f.toInteger lo hi)
  if rs.all Option.isSome then (ofLanes m (rs.map fun r => r.getD 0), false) else (Config.drawV128 n, true)

/-- `f32x4.fromSignedInt` (R553): the lanes as signed integers, rounded by `rm` (R550). -/
def execF32x4FromSignedInt (d : Ident) (a : VOperand) (rm : RoundingMode) (s : State) : Out :=
  unary s d a (lanewise1 s.params.laneMapping 32 fun p => binary32.convertFromInt rm (sint p))

/-- `f64x2.fromSignedInt` (R554): the lanes as signed integers, rounded by `rm` (R550). -/
def execF64x2FromSignedInt (d : Ident) (a : VOperand) (rm : RoundingMode) (s : State) : Out :=
  unary s d a (lanewise1 s.params.laneMapping 64 fun p => binary64.convertFromInt rm (sint p))

/-- `f32x4.fromUnsignedInt` (R555): the lanes as unsigned integers, rounded by `rm` (R551). -/
def execF32x4FromUnsignedInt (d : Ident) (a : VOperand) (rm : RoundingMode) (s : State) : Out :=
  unary s d a (lanewise1 s.params.laneMapping 32 fun p => binary32.convertFromInt rm (uint p))

/-- `f64x2.fromUnsignedInt` (R556): the lanes as unsigned integers, rounded by `rm` (R551). -/
def execF64x2FromUnsignedInt (d : Ident) (a : VOperand) (rm : RoundingMode) (s : State) : Out :=
  unary s d a (lanewise1 s.params.laneMapping 64 fun p => binary64.convertFromInt rm (uint p))

/-- `s32x4.fromFloat` (R557): lanes truncated to signed integers of 32 bits, or `fail` (R552). -/
def execS32x4FromFloat (d1 d2 : Ident) (a : VOperand) (s : State) : Out :=
  execCvt s d1 d2 (read kV128 s a) (convertLanes s.params.laneMapping binary32 (-(2 ^ 31)) (2 ^ 31 - 1))

/-- `s64x2.fromFloat` (R558): lanes truncated to signed integers of 64 bits, or `fail` (R552). -/
def execS64x2FromFloat (d1 d2 : Ident) (a : VOperand) (s : State) : Out :=
  execCvt s d1 d2 (read kV128 s a) (convertLanes s.params.laneMapping binary64 (-(2 ^ 63)) (2 ^ 63 - 1))

/-- `u32x4.fromFloat` (R559): lanes truncated to unsigned integers of 32 bits, or `fail` (R552). -/
def execU32x4FromFloat (d1 d2 : Ident) (a : VOperand) (s : State) : Out :=
  execCvt s d1 d2 (read kV128 s a) (convertLanes s.params.laneMapping binary32 0 (2 ^ 32 - 1))

/-- `u64x2.fromFloat` (R560): lanes truncated to unsigned integers of 64 bits, or `fail` (R552). -/
def execU64x2FromFloat (d1 d2 : Ident) (a : VOperand) (s : State) : Out :=
  execCvt s d1 d2 (read kV128 s a) (convertLanes s.params.laneMapping binary64 0 (2 ^ 64 - 1))

end Sys2Proof.Machine
end

