-- ==== Sys2Proof/Machine/FpArith.lean ====
section
/-! DEFINITION. The meanings of floating-point arithmetic and the approximations (48_fp_arith.md), one definition per operation (R510 to R523). -/

namespace Sys2Proof.Machine

/-- `f32x4.add` (R510): lane by lane in the rounding mode `rm` (R501). -/
def execF32x4Add (d : Ident) (a b : VOperand) (rm : RoundingMode) (s : State) : Out :=
  drawBinary s d 4 a b (lanewiseDraw2 s.params.laneMapping 32 (binary32.wrapBinary s.params.flushSubnormals (binary32.addition rm)))

/-- `f64x2.add` (R511): lane by lane in the rounding mode `rm` (R501). -/
def execF64x2Add (d : Ident) (a b : VOperand) (rm : RoundingMode) (s : State) : Out :=
  drawBinary s d 2 a b (lanewiseDraw2 s.params.laneMapping 64 (binary64.wrapBinary s.params.flushSubnormals (binary64.addition rm)))

/-- `f32x4.sub` (R512): lane by lane in the rounding mode `rm` (R502). -/
def execF32x4Sub (d : Ident) (a b : VOperand) (rm : RoundingMode) (s : State) : Out :=
  drawBinary s d 4 a b (lanewiseDraw2 s.params.laneMapping 32 (binary32.wrapBinary s.params.flushSubnormals (binary32.subtraction rm)))

/-- `f64x2.sub` (R513): lane by lane in the rounding mode `rm` (R502). -/
def execF64x2Sub (d : Ident) (a b : VOperand) (rm : RoundingMode) (s : State) : Out :=
  drawBinary s d 2 a b (lanewiseDraw2 s.params.laneMapping 64 (binary64.wrapBinary s.params.flushSubnormals (binary64.subtraction rm)))

/-- `f32x4.div` (R514): lane by lane in the rounding mode `rm` (R503). -/
def execF32x4Div (d : Ident) (a b : VOperand) (rm : RoundingMode) (s : State) : Out :=
  drawBinary s d 4 a b (lanewiseDraw2 s.params.laneMapping 32 (binary32.wrapBinary s.params.flushSubnormals (binary32.division rm)))

/-- `f64x2.div` (R515): lane by lane in the rounding mode `rm` (R503). -/
def execF64x2Div (d : Ident) (a b : VOperand) (rm : RoundingMode) (s : State) : Out :=
  drawBinary s d 2 a b (lanewiseDraw2 s.params.laneMapping 64 (binary64.wrapBinary s.params.flushSubnormals (binary64.division rm)))

/-- `f32x4.mul` (R516): lane by lane in the rounding mode `rm` (R504). -/
def execF32x4Mul (d : Ident) (a b : VOperand) (rm : RoundingMode) (s : State) : Out :=
  drawBinary s d 4 a b (lanewiseDraw2 s.params.laneMapping 32 (binary32.wrapBinary s.params.flushSubnormals (binary32.multiplication rm)))

/-- `f64x2.mul` (R517): lane by lane in the rounding mode `rm` (R504). -/
def execF64x2Mul (d : Ident) (a b : VOperand) (rm : RoundingMode) (s : State) : Out :=
  drawBinary s d 2 a b (lanewiseDraw2 s.params.laneMapping 64 (binary64.wrapBinary s.params.flushSubnormals (binary64.multiplication rm)))

/-- `f32x4.sqrt` (R518): lane by lane in the rounding mode `rm` (R505). -/
def execF32x4Sqrt (d : Ident) (a : VOperand) (rm : RoundingMode) (s : State) : Out :=
  drawUnary s d 4 a (lanewiseDraw1 s.params.laneMapping 32 (binary32.wrapUnary s.params.flushSubnormals (binary32.squareRoot rm)))

/-- `f64x2.sqrt` (R519): lane by lane in the rounding mode `rm` (R505). -/
def execF64x2Sqrt (d : Ident) (a : VOperand) (rm : RoundingMode) (s : State) : Out :=
  drawUnary s d 2 a (lanewiseDraw1 s.params.laneMapping 64 (binary64.wrapUnary s.params.flushSubnormals (binary64.squareRoot rm)))

/-- `f32x4.reciprocalApproximation` (R520): four kinds of lanes fixed, the others free (R506). -/
def execF32x4ReciprocalApproximation (d : Ident) (a : VOperand) (s : State) : Out :=
  drawUnary s d 4 a (lanewiseDraw1 s.params.laneMapping 32 (binary32.recipApprox Config.drawF32))

/-- `f64x2.reciprocalApproximation` (R521): four kinds of lanes fixed, the others free (R506). -/
def execF64x2ReciprocalApproximation (d : Ident) (a : VOperand) (s : State) : Out :=
  drawUnary s d 2 a (lanewiseDraw1 s.params.laneMapping 64 (binary64.recipApprox Config.drawF64))

/-- `f32x4.reciprocalSqrtApproximation` (R522): four kinds of lanes fixed, the others free (R507). -/
def execF32x4ReciprocalSqrtApproximation (d : Ident) (a : VOperand) (s : State) : Out :=
  drawUnary s d 4 a (lanewiseDraw1 s.params.laneMapping 32 (binary32.rsqrtApprox Config.drawF32))

/-- `f64x2.reciprocalSqrtApproximation` (R523): four kinds of lanes fixed, the others free (R507). -/
def execF64x2ReciprocalSqrtApproximation (d : Ident) (a : VOperand) (s : State) : Out :=
  drawUnary s d 2 a (lanewiseDraw1 s.params.laneMapping 64 (binary64.rsqrtApprox Config.drawF64))

end Sys2Proof.Machine
end

