-- ==== Sys2Proof/Machine/FpSign.lean ====
section
/-! DEFINITION. The meanings of floating-point sign operations, minimum and maximum (47_fp_sign_minmax.md), one definition per operation (R470 to R481). -/

namespace Sys2Proof.Machine

/-- `f32x4.neg` (R470): the sign bit of every lane inverted (R460). -/
def execF32x4Neg (d : Ident) (a : VOperand) (s : State) : Out :=
  unary s d a (lanewise1 s.params.laneMapping 32 fpNegate)

/-- `f64x2.neg` (R471): the sign bit of every lane inverted (R460). -/
def execF64x2Neg (d : Ident) (a : VOperand) (s : State) : Out :=
  unary s d a (lanewise1 s.params.laneMapping 64 fpNegate)

/-- `f32x4.abs` (R472): the sign bit of every lane cleared (R462). -/
def execF32x4Abs (d : Ident) (a : VOperand) (s : State) : Out :=
  unary s d a (lanewise1 s.params.laneMapping 32 fpAbs)

/-- `f64x2.abs` (R473): the sign bit of every lane cleared (R462). -/
def execF64x2Abs (d : Ident) (a : VOperand) (s : State) : Out :=
  unary s d a (lanewise1 s.params.laneMapping 64 fpAbs)

/-- `f32x4.min` (R474): lane by lane (R464). -/
def execF32x4Min (d : Ident) (a b : VOperand) (s : State) : Out :=
  drawBinary s d 4 a b (lanewiseDraw2 s.params.laneMapping 32 binary32.min)

/-- `f64x2.min` (R475): lane by lane (R464). -/
def execF64x2Min (d : Ident) (a b : VOperand) (s : State) : Out :=
  drawBinary s d 2 a b (lanewiseDraw2 s.params.laneMapping 64 binary64.min)

/-- `f32x4.max` (R476): lane by lane (R465). -/
def execF32x4Max (d : Ident) (a b : VOperand) (s : State) : Out :=
  drawBinary s d 4 a b (lanewiseDraw2 s.params.laneMapping 32 binary32.max)

/-- `f64x2.max` (R477): lane by lane (R465). -/
def execF64x2Max (d : Ident) (a b : VOperand) (s : State) : Out :=
  drawBinary s d 2 a b (lanewiseDraw2 s.params.laneMapping 64 binary64.max)

/-- `f32x4.minNum` (R478): lane by lane (R466). -/
def execF32x4MinNum (d : Ident) (a b : VOperand) (s : State) : Out :=
  drawBinary s d 4 a b (lanewiseDraw2 s.params.laneMapping 32 binary32.minNum)

/-- `f64x2.minNum` (R479): lane by lane (R466). -/
def execF64x2MinNum (d : Ident) (a b : VOperand) (s : State) : Out :=
  drawBinary s d 2 a b (lanewiseDraw2 s.params.laneMapping 64 binary64.minNum)

/-- `f32x4.maxNum` (R480): lane by lane (R467). -/
def execF32x4MaxNum (d : Ident) (a b : VOperand) (s : State) : Out :=
  drawBinary s d 4 a b (lanewiseDraw2 s.params.laneMapping 32 binary32.maxNum)

/-- `f64x2.maxNum` (R481): lane by lane (R467). -/
def execF64x2MaxNum (d : Ident) (a b : VOperand) (s : State) : Out :=
  drawBinary s d 2 a b (lanewiseDraw2 s.params.laneMapping 64 binary64.maxNum)

end Sys2Proof.Machine
end

