-- ==== Sys2Proof/Machine/IntArith.lean ====
section
/-! DEFINITION. The meanings of wrapping and saturating arithmetic and shifts (43_int_arith.md), one definition per operation (R280 to R315). -/

namespace Sys2Proof.Machine

/-- A shift by a scalar (43_int_arith.md R278, R279): every lane by the same number of places. -/
def shift (s : State) (d : Ident) (a : VOperand) (y : Operand (BitVec 8)) (W : Nat)
    (f : Nat → BitVec W → BitVec W) : Out :=
  exec1 s d kV128 ((read kV128 s a).both (read kI8 s y)) fun p =>
    lanewise1 s.params.laneMapping W (f (shiftAmount W p.2)) p.1

/-- `i8x16.add` (R280): lanes modulo `2^8` (R271). -/
def execI8x16Add (d : Ident) (a b : VOperand) (s : State) : Out :=
  binary s d a b (lanewise2 s.params.laneMapping 8 wrapAdd)

/-- `i16x8.add` (R281): lanes modulo `2^16` (R271). -/
def execI16x8Add (d : Ident) (a b : VOperand) (s : State) : Out :=
  binary s d a b (lanewise2 s.params.laneMapping 16 wrapAdd)

/-- `i32x4.add` (R282): lanes modulo `2^32` (R271). -/
def execI32x4Add (d : Ident) (a b : VOperand) (s : State) : Out :=
  binary s d a b (lanewise2 s.params.laneMapping 32 wrapAdd)

/-- `i64x2.add` (R283): lanes modulo `2^64` (R271). -/
def execI64x2Add (d : Ident) (a b : VOperand) (s : State) : Out :=
  binary s d a b (lanewise2 s.params.laneMapping 64 wrapAdd)

/-- `i8x16.sub` (R284): lanes modulo `2^8` (R272). -/
def execI8x16Sub (d : Ident) (a b : VOperand) (s : State) : Out :=
  binary s d a b (lanewise2 s.params.laneMapping 8 wrapSub)

/-- `i16x8.sub` (R285): lanes modulo `2^16` (R272). -/
def execI16x8Sub (d : Ident) (a b : VOperand) (s : State) : Out :=
  binary s d a b (lanewise2 s.params.laneMapping 16 wrapSub)

/-- `i32x4.sub` (R286): lanes modulo `2^32` (R272). -/
def execI32x4Sub (d : Ident) (a b : VOperand) (s : State) : Out :=
  binary s d a b (lanewise2 s.params.laneMapping 32 wrapSub)

/-- `i64x2.sub` (R287): lanes modulo `2^64` (R272). -/
def execI64x2Sub (d : Ident) (a b : VOperand) (s : State) : Out :=
  binary s d a b (lanewise2 s.params.laneMapping 64 wrapSub)

/-- `i8x16.mul` (R288): lanes modulo `2^8` (R273). -/
def execI8x16Mul (d : Ident) (a b : VOperand) (s : State) : Out :=
  binary s d a b (lanewise2 s.params.laneMapping 8 wrapMul)

/-- `i16x8.mul` (R289): lanes modulo `2^16` (R273). -/
def execI16x8Mul (d : Ident) (a b : VOperand) (s : State) : Out :=
  binary s d a b (lanewise2 s.params.laneMapping 16 wrapMul)

/-- `i32x4.mul` (R290): lanes modulo `2^32` (R273). -/
def execI32x4Mul (d : Ident) (a b : VOperand) (s : State) : Out :=
  binary s d a b (lanewise2 s.params.laneMapping 32 wrapMul)

/-- `i64x2.mul` (R291): lanes modulo `2^64` (R273). -/
def execI64x2Mul (d : Ident) (a b : VOperand) (s : State) : Out :=
  binary s d a b (lanewise2 s.params.laneMapping 64 wrapMul)

/-- `i8x16.neg` (R292): lanes modulo `2^8` (R274). -/
def execI8x16Neg (d : Ident) (a : VOperand) (s : State) : Out :=
  unary s d a (lanewise1 s.params.laneMapping 8 wrapNeg)

/-- `i16x8.neg` (R293): lanes modulo `2^16` (R274). -/
def execI16x8Neg (d : Ident) (a : VOperand) (s : State) : Out :=
  unary s d a (lanewise1 s.params.laneMapping 16 wrapNeg)

/-- `i32x4.neg` (R294): lanes modulo `2^32` (R274). -/
def execI32x4Neg (d : Ident) (a : VOperand) (s : State) : Out :=
  unary s d a (lanewise1 s.params.laneMapping 32 wrapNeg)

/-- `i64x2.neg` (R295): lanes modulo `2^64` (R274). -/
def execI64x2Neg (d : Ident) (a : VOperand) (s : State) : Out :=
  unary s d a (lanewise1 s.params.laneMapping 64 wrapNeg)

/-- `s8x16.addSaturate` (R296): the exact sum of the lanes, clamped to the signed range (R276). -/
def execS8x16AddSaturate (d : Ident) (a b : VOperand) (s : State) : Out :=
  binary s d a b (lanewise2 s.params.laneMapping 8 addSatS)

/-- `s16x8.addSaturate` (R297): the exact sum of the lanes, clamped to the signed range (R276). -/
def execS16x8AddSaturate (d : Ident) (a b : VOperand) (s : State) : Out :=
  binary s d a b (lanewise2 s.params.laneMapping 16 addSatS)

/-- `u8x16.addSaturate` (R298): the exact sum of the lanes, clamped to the unsigned range (R276). -/
def execU8x16AddSaturate (d : Ident) (a b : VOperand) (s : State) : Out :=
  binary s d a b (lanewise2 s.params.laneMapping 8 addSatU)

/-- `u16x8.addSaturate` (R299): the exact sum of the lanes, clamped to the unsigned range (R276). -/
def execU16x8AddSaturate (d : Ident) (a b : VOperand) (s : State) : Out :=
  binary s d a b (lanewise2 s.params.laneMapping 16 addSatU)

/-- `s8x16.subSaturate` (R300): the exact difference of the lanes, clamped to the signed range (R277). -/
def execS8x16SubSaturate (d : Ident) (a b : VOperand) (s : State) : Out :=
  binary s d a b (lanewise2 s.params.laneMapping 8 subSatS)

/-- `s16x8.subSaturate` (R301): the exact difference of the lanes, clamped to the signed range (R277). -/
def execS16x8SubSaturate (d : Ident) (a b : VOperand) (s : State) : Out :=
  binary s d a b (lanewise2 s.params.laneMapping 16 subSatS)

/-- `u8x16.subSaturate` (R302): the exact difference of the lanes, clamped to the unsigned range (R277). -/
def execU8x16SubSaturate (d : Ident) (a b : VOperand) (s : State) : Out :=
  binary s d a b (lanewise2 s.params.laneMapping 8 subSatU)

/-- `u16x8.subSaturate` (R303): the exact difference of the lanes, clamped to the unsigned range (R277). -/
def execU16x8SubSaturate (d : Ident) (a b : VOperand) (s : State) : Out :=
  binary s d a b (lanewise2 s.params.laneMapping 16 subSatU)

/-- `i8x16.shiftLeftByScalar` (R304): left by `y mod 8` places, zeros entering (R278). -/
def execI8x16ShiftLeftByScalar (d : Ident) (a : VOperand) (y : Operand (BitVec 8)) (s : State) : Out :=
  shift s d a y 8 shiftLeft

/-- `i16x8.shiftLeftByScalar` (R305): left by `y mod 16` places, zeros entering (R278). -/
def execI16x8ShiftLeftByScalar (d : Ident) (a : VOperand) (y : Operand (BitVec 8)) (s : State) : Out :=
  shift s d a y 16 shiftLeft

/-- `i32x4.shiftLeftByScalar` (R306): left by `y mod 32` places, zeros entering (R278). -/
def execI32x4ShiftLeftByScalar (d : Ident) (a : VOperand) (y : Operand (BitVec 8)) (s : State) : Out :=
  shift s d a y 32 shiftLeft

/-- `i64x2.shiftLeftByScalar` (R307): left by `y mod 64` places, zeros entering (R278). -/
def execI64x2ShiftLeftByScalar (d : Ident) (a : VOperand) (y : Operand (BitVec 8)) (s : State) : Out :=
  shift s d a y 64 shiftLeft

/-- `s8x16.shiftRightByScalar` (R308): right by `y mod 8` places, copies of the sign entering (R279). -/
def execS8x16ShiftRightByScalar (d : Ident) (a : VOperand) (y : Operand (BitVec 8)) (s : State) : Out :=
  shift s d a y 8 shiftRightS

/-- `s16x8.shiftRightByScalar` (R309): right by `y mod 16` places, copies of the sign entering (R279). -/
def execS16x8ShiftRightByScalar (d : Ident) (a : VOperand) (y : Operand (BitVec 8)) (s : State) : Out :=
  shift s d a y 16 shiftRightS

/-- `s32x4.shiftRightByScalar` (R310): right by `y mod 32` places, copies of the sign entering (R279). -/
def execS32x4ShiftRightByScalar (d : Ident) (a : VOperand) (y : Operand (BitVec 8)) (s : State) : Out :=
  shift s d a y 32 shiftRightS

/-- `s64x2.shiftRightByScalar` (R311): right by `y mod 64` places, copies of the sign entering (R279). -/
def execS64x2ShiftRightByScalar (d : Ident) (a : VOperand) (y : Operand (BitVec 8)) (s : State) : Out :=
  shift s d a y 64 shiftRightS

/-- `u8x16.shiftRightByScalar` (R312): right by `y mod 8` places, zeros entering (R279). -/
def execU8x16ShiftRightByScalar (d : Ident) (a : VOperand) (y : Operand (BitVec 8)) (s : State) : Out :=
  shift s d a y 8 shiftRightU

/-- `u16x8.shiftRightByScalar` (R313): right by `y mod 16` places, zeros entering (R279). -/
def execU16x8ShiftRightByScalar (d : Ident) (a : VOperand) (y : Operand (BitVec 8)) (s : State) : Out :=
  shift s d a y 16 shiftRightU

/-- `u32x4.shiftRightByScalar` (R314): right by `y mod 32` places, zeros entering (R279). -/
def execU32x4ShiftRightByScalar (d : Ident) (a : VOperand) (y : Operand (BitVec 8)) (s : State) : Out :=
  shift s d a y 32 shiftRightU

/-- `u64x2.shiftRightByScalar` (R315): right by `y mod 64` places, zeros entering (R279). -/
def execU64x2ShiftRightByScalar (d : Ident) (a : VOperand) (y : Operand (BitVec 8)) (s : State) : Out :=
  shift s d a y 64 shiftRightU

end Sys2Proof.Machine
end

