-- ==== Sys2Proof/Machine/LaneAccess.lean ====
section
/-! DEFINITION. The meanings of extractLane, replaceLane, select, swizzle and shuffle (42_lane_access.md), one definition per operation (R235 to R266). -/

namespace Sys2Proof.Machine

/-- `extractLane` for numerical lanes (42_lane_access.md R230). -/
def extractPattern {W n : Nat} (s : State) (d : Ident) (k : Kind (BitVec W) (BitVec W)) (a : VOperand) (i : Fin n) : Out :=
  exec1 s d k (read kV128 s a) fun v => lane s.params.laneMapping W v i.val

/-- `extractLane` for boolean lanes (R230). -/
def extractBoolean {n : Nat} (s : State) (d : Ident) (k : Kind (Lanes Bool n) (Lanes Bool n))
    (a : Operand (Lanes Bool n)) (i : Fin n) : Out :=
  exec1 s d kBool (read k s a) fun v => v.at i

/-- `replaceLane` for numerical lanes (R231). -/
def replacePattern {W n : Nat} (s : State) (d : Ident) (k : Kind (BitVec W) (BitVec W)) (a : VOperand) (i : Fin n)
    (x : Operand (BitVec W)) : Out :=
  exec1 s d kV128 ((read kV128 s a).both (read k s x)) fun p => setlane s.params.laneMapping p.1 i.val p.2

/-- `replaceLane` for boolean lanes (R231). -/
def replaceBoolean {n : Nat} (s : State) (d : Ident) (k : Kind (Lanes Bool n) (Lanes Bool n))
    (a : Operand (Lanes Bool n)) (i : Fin n) (x : Operand Bool) : Out :=
  exec1 s d k ((read k s a).both (read kBool s x)) fun p => p.1.set i p.2

/-- `b8x16.extractLane` (R235): the boolean in lane `i` (R230). -/
def execB8x16ExtractLane (d : Ident) (a : Operand (Lanes Bool 16)) (i : Fin 16) (s : State) : Out :=
  extractBoolean s d kB8x16 a i

/-- `b16x8.extractLane` (R236): the boolean in lane `i` (R230). -/
def execB16x8ExtractLane (d : Ident) (a : Operand (Lanes Bool 8)) (i : Fin 8) (s : State) : Out :=
  extractBoolean s d kB16x8 a i

/-- `b32x4.extractLane` (R237): the boolean in lane `i` (R230). -/
def execB32x4ExtractLane (d : Ident) (a : Operand (Lanes Bool 4)) (i : Fin 4) (s : State) : Out :=
  extractBoolean s d kB32x4 a i

/-- `b64x2.extractLane` (R238): the boolean in lane `i` (R230). -/
def execB64x2ExtractLane (d : Ident) (a : Operand (Lanes Bool 2)) (i : Fin 2) (s : State) : Out :=
  extractBoolean s d kB64x2 a i

/-- `i8x16.extractLane` (R239): the pattern in lane `i` (R230). -/
def execI8x16ExtractLane (d : Ident) (a : VOperand) (i : Fin 16) (s : State) : Out :=
  extractPattern s d kI8 a i

/-- `i16x8.extractLane` (R240): the pattern in lane `i` (R230). -/
def execI16x8ExtractLane (d : Ident) (a : VOperand) (i : Fin 8) (s : State) : Out :=
  extractPattern s d kI16 a i

/-- `i32x4.extractLane` (R241): the pattern in lane `i` (R230). -/
def execI32x4ExtractLane (d : Ident) (a : VOperand) (i : Fin 4) (s : State) : Out :=
  extractPattern s d kI32 a i

/-- `i64x2.extractLane` (R242): the pattern in lane `i` (R230). -/
def execI64x2ExtractLane (d : Ident) (a : VOperand) (i : Fin 2) (s : State) : Out :=
  extractPattern s d kI64 a i

/-- `f32x4.extractLane` (R243): the pattern in lane `i` (R230). -/
def execF32x4ExtractLane (d : Ident) (a : VOperand) (i : Fin 4) (s : State) : Out :=
  extractPattern s d kF32 a i

/-- `f64x2.extractLane` (R244): the pattern in lane `i` (R230). -/
def execF64x2ExtractLane (d : Ident) (a : VOperand) (i : Fin 2) (s : State) : Out :=
  extractPattern s d kF64 a i

/-- `b8x16.replaceLane` (R245): lane `i` becomes `x`, every other lane is that of `a` (R231). -/
def execB8x16ReplaceLane (d : Ident) (a : Operand (Lanes Bool 16)) (i : Fin 16) (x : Operand Bool) (s : State) : Out :=
  replaceBoolean s d kB8x16 a i x

/-- `b16x8.replaceLane` (R246): lane `i` becomes `x`, every other lane is that of `a` (R231). -/
def execB16x8ReplaceLane (d : Ident) (a : Operand (Lanes Bool 8)) (i : Fin 8) (x : Operand Bool) (s : State) : Out :=
  replaceBoolean s d kB16x8 a i x

/-- `b32x4.replaceLane` (R247): lane `i` becomes `x`, every other lane is that of `a` (R231). -/
def execB32x4ReplaceLane (d : Ident) (a : Operand (Lanes Bool 4)) (i : Fin 4) (x : Operand Bool) (s : State) : Out :=
  replaceBoolean s d kB32x4 a i x

/-- `b64x2.replaceLane` (R248): lane `i` becomes `x`, every other lane is that of `a` (R231). -/
def execB64x2ReplaceLane (d : Ident) (a : Operand (Lanes Bool 2)) (i : Fin 2) (x : Operand Bool) (s : State) : Out :=
  replaceBoolean s d kB64x2 a i x

/-- `i8x16.replaceLane` (R249): lane `i` becomes `x`, every other lane is that of `a` (R231). -/
def execI8x16ReplaceLane (d : Ident) (a : VOperand) (i : Fin 16) (x : Operand (BitVec 8)) (s : State) : Out :=
  replacePattern s d kI8 a i x

/-- `i16x8.replaceLane` (R250): lane `i` becomes `x`, every other lane is that of `a` (R231). -/
def execI16x8ReplaceLane (d : Ident) (a : VOperand) (i : Fin 8) (x : Operand (BitVec 16)) (s : State) : Out :=
  replacePattern s d kI16 a i x

/-- `i32x4.replaceLane` (R251): lane `i` becomes `x`, every other lane is that of `a` (R231). -/
def execI32x4ReplaceLane (d : Ident) (a : VOperand) (i : Fin 4) (x : Operand (BitVec 32)) (s : State) : Out :=
  replacePattern s d kI32 a i x

/-- `i64x2.replaceLane` (R252): lane `i` becomes `x`, every other lane is that of `a` (R231). -/
def execI64x2ReplaceLane (d : Ident) (a : VOperand) (i : Fin 2) (x : Operand (BitVec 64)) (s : State) : Out :=
  replacePattern s d kI64 a i x

/-- `f32x4.replaceLane` (R253): lane `i` becomes `x`, every other lane is that of `a` (R231). -/
def execF32x4ReplaceLane (d : Ident) (a : VOperand) (i : Fin 4) (x : Operand (BitVec 32)) (s : State) : Out :=
  replacePattern s d kF32 a i x

/-- `f64x2.replaceLane` (R254): lane `i` becomes `x`, every other lane is that of `a` (R231). -/
def execF64x2ReplaceLane (d : Ident) (a : VOperand) (i : Fin 2) (x : Operand (BitVec 64)) (s : State) : Out :=
  replacePattern s d kF64 a i x

/-- `v8x16.select` (R255): whole lanes by the selector (R232). -/
def execV8x16Select (d : Ident) (c : Operand (Lanes Bool 16)) (t f : VOperand) (s : State) : Out :=
  ternary s d kB8x16 c t f (selectLanes s.params.laneMapping 8)

/-- `v16x8.select` (R256): whole lanes by the selector (R232). -/
def execV16x8Select (d : Ident) (c : Operand (Lanes Bool 8)) (t f : VOperand) (s : State) : Out :=
  ternary s d kB16x8 c t f (selectLanes s.params.laneMapping 16)

/-- `v32x4.select` (R257): whole lanes by the selector (R232). -/
def execV32x4Select (d : Ident) (c : Operand (Lanes Bool 4)) (t f : VOperand) (s : State) : Out :=
  ternary s d kB32x4 c t f (selectLanes s.params.laneMapping 32)

/-- `v64x2.select` (R258): whole lanes by the selector (R232). -/
def execV64x2Select (d : Ident) (c : Operand (Lanes Bool 2)) (t f : VOperand) (s : State) : Out :=
  ternary s d kB64x2 c t f (selectLanes s.params.laneMapping 64)

/-- `v8x16.swizzle` (R259): lanes of one vector by index (R233). -/
def execV8x16Swizzle (d : Ident) (a : VOperand) (c : Lanes (Fin 16) 16) (s : State) : Out :=
  unary s d a fun v => swizzleLanes s.params.laneMapping 8 v c

/-- `v16x8.swizzle` (R260): lanes of one vector by index (R233). -/
def execV16x8Swizzle (d : Ident) (a : VOperand) (c : Lanes (Fin 8) 8) (s : State) : Out :=
  unary s d a fun v => swizzleLanes s.params.laneMapping 16 v c

/-- `v32x4.swizzle` (R261): lanes of one vector by index (R233). -/
def execV32x4Swizzle (d : Ident) (a : VOperand) (c : Lanes (Fin 4) 4) (s : State) : Out :=
  unary s d a fun v => swizzleLanes s.params.laneMapping 32 v c

/-- `v64x2.swizzle` (R262): lanes of one vector by index (R233). -/
def execV64x2Swizzle (d : Ident) (a : VOperand) (c : Lanes (Fin 2) 2) (s : State) : Out :=
  unary s d a fun v => swizzleLanes s.params.laneMapping 64 v c

/-- `v8x16.shuffle` (R263): lanes of two vectors by index (R234). -/
def execV8x16Shuffle (d : Ident) (a b : VOperand) (c : Lanes (Fin 32) 16) (s : State) : Out :=
  binary s d a b fun v w => shuffleLanes s.params.laneMapping 8 16 v w c

/-- `v16x8.shuffle` (R264): lanes of two vectors by index (R234). -/
def execV16x8Shuffle (d : Ident) (a b : VOperand) (c : Lanes (Fin 16) 8) (s : State) : Out :=
  binary s d a b fun v w => shuffleLanes s.params.laneMapping 16 8 v w c

/-- `v32x4.shuffle` (R265): lanes of two vectors by index (R234). -/
def execV32x4Shuffle (d : Ident) (a b : VOperand) (c : Lanes (Fin 8) 4) (s : State) : Out :=
  binary s d a b fun v w => shuffleLanes s.params.laneMapping 32 4 v w c

/-- `v64x2.shuffle` (R266): lanes of two vectors by index (R234). -/
def execV64x2Shuffle (d : Ident) (a b : VOperand) (c : Lanes (Fin 4) 2) (s : State) : Out :=
  binary s d a b fun v w => shuffleLanes s.params.laneMapping 64 2 v w c

end Sys2Proof.Machine
end

