-- ==== Sys2Proof/Machine/LoadStore.lean ====
section
/-! DEFINITION. The meanings of the loads and stores (46_load_store.md), one definition per operation (R435 to R448). -/

namespace Sys2Proof.Machine

/-- `v8x16.load` (R435): 16 lanes from 16 bytes (R431). -/
def execV8x16Load (d mem : Ident) (addr : Nat) (s : State) : Out :=
  execLoadLanes s d mem addr 8 16

/-- `v16x8.load` (R436): 8 lanes from 16 bytes (R431). -/
def execV16x8Load (d mem : Ident) (addr : Nat) (s : State) : Out :=
  execLoadLanes s d mem addr 16 8

/-- `v32x4.load` (R437): 4 lanes from 16 bytes (R431). -/
def execV32x4Load (d mem : Ident) (addr : Nat) (s : State) : Out :=
  execLoadLanes s d mem addr 32 4

/-- `v64x2.load` (R438): 2 lanes from 16 bytes (R431). -/
def execV64x2Load (d mem : Ident) (addr : Nat) (s : State) : Out :=
  execLoadLanes s d mem addr 64 2

/-- `v8x16.store` (R439): every lane to 16 bytes (R432). -/
def execV8x16Store (mem : Ident) (addr : Nat) (data : VOperand) (s : State) : Out :=
  execStoreLanes s mem addr data 8 16

/-- `v16x8.store` (R440): every lane to 16 bytes (R432). -/
def execV16x8Store (mem : Ident) (addr : Nat) (data : VOperand) (s : State) : Out :=
  execStoreLanes s mem addr data 16 8

/-- `v32x4.store` (R441): every lane to 16 bytes (R432). -/
def execV32x4Store (mem : Ident) (addr : Nat) (data : VOperand) (s : State) : Out :=
  execStoreLanes s mem addr data 32 4

/-- `v64x2.store` (R442): every lane to 16 bytes (R432). -/
def execV64x2Store (mem : Ident) (addr : Nat) (data : VOperand) (s : State) : Out :=
  execStoreLanes s mem addr data 64 2

/-- `v32x4.load1` (R443): 1 lane from 4 bytes, the other lanes zero (R433). -/
def execV32x4Load1 (d mem : Ident) (addr : Nat) (s : State) : Out :=
  execLoadLanes s d mem addr 32 1

/-- `v32x4.load2` (R444): 2 lanes from 8 bytes, the other lanes zero (R433). -/
def execV32x4Load2 (d mem : Ident) (addr : Nat) (s : State) : Out :=
  execLoadLanes s d mem addr 32 2

/-- `v32x4.load3` (R445): 3 lanes from 12 bytes, the other lanes zero (R433). -/
def execV32x4Load3 (d mem : Ident) (addr : Nat) (s : State) : Out :=
  execLoadLanes s d mem addr 32 3

/-- `v32x4.store1` (R446): lane 0 to 4 bytes (R434). -/
def execV32x4Store1 (mem : Ident) (addr : Nat) (data : VOperand) (s : State) : Out :=
  execStoreLanes s mem addr data 32 1

/-- `v32x4.store2` (R447): lanes 0 to 1 to 8 bytes (R434). -/
def execV32x4Store2 (mem : Ident) (addr : Nat) (data : VOperand) (s : State) : Out :=
  execStoreLanes s mem addr data 32 2

/-- `v32x4.store3` (R448): lanes 0 to 2 to 12 bytes (R434). -/
def execV32x4Store3 (mem : Ident) (addr : Nat) (data : VOperand) (s : State) : Out :=
  execStoreLanes s mem addr data 32 3

end Sys2Proof.Machine
end

