-- ==== Sys2Proof/Machine/Flags.lean ====
section
/-! DEFINITION. There are no flags: no operation writes a status flag, a carry, a saturation mark or an IEEE exception flag
(10_state.md R50, 40_fp_semantics.md R139, 43_int_arith.md R275). The nearest things are boolean RESULTS, and these are
computed here: the reductions of 44_logical_bitwise.md. (`fail` of `fromFloat`, R552, is in Conversions.lean.) -/

namespace Sys2Proof.Machine

/-- `S.anyTrue(a)` (44_logical_bitwise.md R325): the `or` of all the lanes. -/
def anyLane {L : Nat} (a : Lanes Bool L) : Bool := a.toList.any id

/-- `S.allTrue(a)` (R326): the `and` of all the lanes. -/
def allLanes {L : Nat} (a : Lanes Bool L) : Bool := a.toList.all id

end Sys2Proof.Machine
end

