-- ==== Sys2Proof/Machine/Logical.lean ====
section
/-! DEFINITION. The meanings of logical and bitwise operations and reductions (44_logical_bitwise.md), one definition per operation (R327 to R354). -/

namespace Sys2Proof.Machine

/-- A logical operation on two boolean vectors, lane by lane (44_logical_bitwise.md R320 to R322). -/
def binaryBooleans {n : Nat} (s : State) (d : Ident) (k : Kind (Lanes Bool n) (Lanes Bool n))
    (a b : Operand (Lanes Bool n)) (f : Bool → Bool → Bool) : Out :=
  exec1 s d k ((read k s a).both (read k s b)) fun p => Lanes.zipWith f p.1 p.2

/-- A logical operation on one boolean vector, lane by lane (R323). -/
def unaryBooleans {n : Nat} (s : State) (d : Ident) (k : Kind (Lanes Bool n) (Lanes Bool n))
    (a : Operand (Lanes Bool n)) (f : Bool → Bool) : Out :=
  exec1 s d k (read k s a) fun v => v.map f

/-- `b8x16.and` (R327): lane by lane (R320). -/
def execB8x16And (d : Ident) (a b : Operand (Lanes Bool 16)) (s : State) : Out :=
  binaryBooleans s d kB8x16 a b fun p q => p && q

/-- `b16x8.and` (R328): lane by lane (R320). -/
def execB16x8And (d : Ident) (a b : Operand (Lanes Bool 8)) (s : State) : Out :=
  binaryBooleans s d kB16x8 a b fun p q => p && q

/-- `b32x4.and` (R329): lane by lane (R320). -/
def execB32x4And (d : Ident) (a b : Operand (Lanes Bool 4)) (s : State) : Out :=
  binaryBooleans s d kB32x4 a b fun p q => p && q

/-- `b64x2.and` (R330): lane by lane (R320). -/
def execB64x2And (d : Ident) (a b : Operand (Lanes Bool 2)) (s : State) : Out :=
  binaryBooleans s d kB64x2 a b fun p q => p && q

/-- `b8x16.or` (R331): lane by lane (R321). -/
def execB8x16Or (d : Ident) (a b : Operand (Lanes Bool 16)) (s : State) : Out :=
  binaryBooleans s d kB8x16 a b fun p q => p || q

/-- `b16x8.or` (R332): lane by lane (R321). -/
def execB16x8Or (d : Ident) (a b : Operand (Lanes Bool 8)) (s : State) : Out :=
  binaryBooleans s d kB16x8 a b fun p q => p || q

/-- `b32x4.or` (R333): lane by lane (R321). -/
def execB32x4Or (d : Ident) (a b : Operand (Lanes Bool 4)) (s : State) : Out :=
  binaryBooleans s d kB32x4 a b fun p q => p || q

/-- `b64x2.or` (R334): lane by lane (R321). -/
def execB64x2Or (d : Ident) (a b : Operand (Lanes Bool 2)) (s : State) : Out :=
  binaryBooleans s d kB64x2 a b fun p q => p || q

/-- `b8x16.xor` (R335): lane by lane (R322). -/
def execB8x16Xor (d : Ident) (a b : Operand (Lanes Bool 16)) (s : State) : Out :=
  binaryBooleans s d kB8x16 a b fun p q => p ^^ q

/-- `b16x8.xor` (R336): lane by lane (R322). -/
def execB16x8Xor (d : Ident) (a b : Operand (Lanes Bool 8)) (s : State) : Out :=
  binaryBooleans s d kB16x8 a b fun p q => p ^^ q

/-- `b32x4.xor` (R337): lane by lane (R322). -/
def execB32x4Xor (d : Ident) (a b : Operand (Lanes Bool 4)) (s : State) : Out :=
  binaryBooleans s d kB32x4 a b fun p q => p ^^ q

/-- `b64x2.xor` (R338): lane by lane (R322). -/
def execB64x2Xor (d : Ident) (a b : Operand (Lanes Bool 2)) (s : State) : Out :=
  binaryBooleans s d kB64x2 a b fun p q => p ^^ q

/-- `b8x16.not` (R339): lane by lane (R323). -/
def execB8x16Not (d : Ident) (a : Operand (Lanes Bool 16)) (s : State) : Out :=
  unaryBooleans s d kB8x16 a fun p => !p

/-- `b16x8.not` (R340): lane by lane (R323). -/
def execB16x8Not (d : Ident) (a : Operand (Lanes Bool 8)) (s : State) : Out :=
  unaryBooleans s d kB16x8 a fun p => !p

/-- `b32x4.not` (R341): lane by lane (R323). -/
def execB32x4Not (d : Ident) (a : Operand (Lanes Bool 4)) (s : State) : Out :=
  unaryBooleans s d kB32x4 a fun p => !p

/-- `b64x2.not` (R342): lane by lane (R323). -/
def execB64x2Not (d : Ident) (a : Operand (Lanes Bool 2)) (s : State) : Out :=
  unaryBooleans s d kB64x2 a fun p => !p

/-- `v128.and` (R343): bit by bit on all 128 bits (R324). -/
def execV128And (d : Ident) (a b : VOperand) (s : State) : Out :=
  binary s d a b fun v w => v &&& w

/-- `v128.or` (R344): bit by bit on all 128 bits (R324). -/
def execV128Or (d : Ident) (a b : VOperand) (s : State) : Out :=
  binary s d a b fun v w => v ||| w

/-- `v128.xor` (R345): bit by bit on all 128 bits (R324). -/
def execV128Xor (d : Ident) (a b : VOperand) (s : State) : Out :=
  binary s d a b fun v w => v ^^^ w

/-- `v128.not` (R346): bit by bit on all 128 bits (R324). -/
def execV128Not (d : Ident) (a : VOperand) (s : State) : Out :=
  unary s d a fun v => ~~~v

/-- `b8x16.anyTrue` (R347): the `or` of all the lanes (R325). -/
def execB8x16AnyTrue (d : Ident) (a : Operand (Lanes Bool 16)) (s : State) : Out :=
  exec1 s d kBool (read kB8x16 s a) anyLane

/-- `b16x8.anyTrue` (R348): the `or` of all the lanes (R325). -/
def execB16x8AnyTrue (d : Ident) (a : Operand (Lanes Bool 8)) (s : State) : Out :=
  exec1 s d kBool (read kB16x8 s a) anyLane

/-- `b32x4.anyTrue` (R349): the `or` of all the lanes (R325). -/
def execB32x4AnyTrue (d : Ident) (a : Operand (Lanes Bool 4)) (s : State) : Out :=
  exec1 s d kBool (read kB32x4 s a) anyLane

/-- `b64x2.anyTrue` (R350): the `or` of all the lanes (R325). -/
def execB64x2AnyTrue (d : Ident) (a : Operand (Lanes Bool 2)) (s : State) : Out :=
  exec1 s d kBool (read kB64x2 s a) anyLane

/-- `b8x16.allTrue` (R351): the `and` of all the lanes (R326). -/
def execB8x16AllTrue (d : Ident) (a : Operand (Lanes Bool 16)) (s : State) : Out :=
  exec1 s d kBool (read kB8x16 s a) allLanes

/-- `b16x8.allTrue` (R352): the `and` of all the lanes (R326). -/
def execB16x8AllTrue (d : Ident) (a : Operand (Lanes Bool 8)) (s : State) : Out :=
  exec1 s d kBool (read kB16x8 s a) allLanes

/-- `b32x4.allTrue` (R353): the `and` of all the lanes (R326). -/
def execB32x4AllTrue (d : Ident) (a : Operand (Lanes Bool 4)) (s : State) : Out :=
  exec1 s d kBool (read kB32x4 s a) allLanes

/-- `b64x2.allTrue` (R354): the `and` of all the lanes (R326). -/
def execB64x2AllTrue (d : Ident) (a : Operand (Lanes Bool 2)) (s : State) : Out :=
  exec1 s d kBool (read kB64x2 s a) allLanes

end Sys2Proof.Machine
end

