-- ==== Sys2Proof/Machine/Dispatch.lean ====
section
/-! DEFINITION. One arm per operation, in the order of the ordinals (30_encoding.md R110, R111). -/

namespace Sys2Proof.Machine

def exec (i : Instr) (s : State) : Host.Outcome State Fault Refusal :=
  match i with
  | .b8x16Build d x => Sys2Proof.Machine.execB8x16Build d x s
  | .b16x8Build d x => Sys2Proof.Machine.execB16x8Build d x s
  | .b32x4Build d x => Sys2Proof.Machine.execB32x4Build d x s
  | .b64x2Build d x => Sys2Proof.Machine.execB64x2Build d x s
  | .i8x16Build d x => Sys2Proof.Machine.execI8x16Build d x s
  | .i16x8Build d x => Sys2Proof.Machine.execI16x8Build d x s
  | .i32x4Build d x => Sys2Proof.Machine.execI32x4Build d x s
  | .i64x2Build d x => Sys2Proof.Machine.execI64x2Build d x s
  | .f32x4Build d x => Sys2Proof.Machine.execF32x4Build d x s
  | .f64x2Build d x => Sys2Proof.Machine.execF64x2Build d x s
  | .b8x16Splat d x => Sys2Proof.Machine.execB8x16Splat d x s
  | .b16x8Splat d x => Sys2Proof.Machine.execB16x8Splat d x s
  | .b32x4Splat d x => Sys2Proof.Machine.execB32x4Splat d x s
  | .b64x2Splat d x => Sys2Proof.Machine.execB64x2Splat d x s
  | .i8x16Splat d x => Sys2Proof.Machine.execI8x16Splat d x s
  | .i16x8Splat d x => Sys2Proof.Machine.execI16x8Splat d x s
  | .i32x4Splat d x => Sys2Proof.Machine.execI32x4Splat d x s
  | .i64x2Splat d x => Sys2Proof.Machine.execI64x2Splat d x s
  | .f32x4Splat d x => Sys2Proof.Machine.execF32x4Splat d x s
  | .f64x2Splat d x => Sys2Proof.Machine.execF64x2Splat d x s
  | .b8x16ExtractLane d a j => Sys2Proof.Machine.execB8x16ExtractLane d a j s
  | .b16x8ExtractLane d a j => Sys2Proof.Machine.execB16x8ExtractLane d a j s
  | .b32x4ExtractLane d a j => Sys2Proof.Machine.execB32x4ExtractLane d a j s
  | .b64x2ExtractLane d a j => Sys2Proof.Machine.execB64x2ExtractLane d a j s
  | .i8x16ExtractLane d a j => Sys2Proof.Machine.execI8x16ExtractLane d a j s
  | .i16x8ExtractLane d a j => Sys2Proof.Machine.execI16x8ExtractLane d a j s
  | .i32x4ExtractLane d a j => Sys2Proof.Machine.execI32x4ExtractLane d a j s
  | .i64x2ExtractLane d a j => Sys2Proof.Machine.execI64x2ExtractLane d a j s
  | .f32x4ExtractLane d a j => Sys2Proof.Machine.execF32x4ExtractLane d a j s
  | .f64x2ExtractLane d a j => Sys2Proof.Machine.execF64x2ExtractLane d a j s
  | .b8x16ReplaceLane d a j x => Sys2Proof.Machine.execB8x16ReplaceLane d a j x s
  | .b16x8ReplaceLane d a j x => Sys2Proof.Machine.execB16x8ReplaceLane d a j x s
  | .b32x4ReplaceLane d a j x => Sys2Proof.Machine.execB32x4ReplaceLane d a j x s
  | .b64x2ReplaceLane d a j x => Sys2Proof.Machine.execB64x2ReplaceLane d a j x s
  | .i8x16ReplaceLane d a j x => Sys2Proof.Machine.execI8x16ReplaceLane d a j x s
  | .i16x8ReplaceLane d a j x => Sys2Proof.Machine.execI16x8ReplaceLane d a j x s
  | .i32x4ReplaceLane d a j x => Sys2Proof.Machine.execI32x4ReplaceLane d a j x s
  | .i64x2ReplaceLane d a j x => Sys2Proof.Machine.execI64x2ReplaceLane d a j x s
  | .f32x4ReplaceLane d a j x => Sys2Proof.Machine.execF32x4ReplaceLane d a j x s
  | .f64x2ReplaceLane d a j x => Sys2Proof.Machine.execF64x2ReplaceLane d a j x s
  | .v8x16Select d c t f => Sys2Proof.Machine.execV8x16Select d c t f s
  | .v16x8Select d c t f => Sys2Proof.Machine.execV16x8Select d c t f s
  | .v32x4Select d c t f => Sys2Proof.Machine.execV32x4Select d c t f s
  | .v64x2Select d c t f => Sys2Proof.Machine.execV64x2Select d c t f s
  | .v8x16Swizzle d a c => Sys2Proof.Machine.execV8x16Swizzle d a c s
  | .v16x8Swizzle d a c => Sys2Proof.Machine.execV16x8Swizzle d a c s
  | .v32x4Swizzle d a c => Sys2Proof.Machine.execV32x4Swizzle d a c s
  | .v64x2Swizzle d a c => Sys2Proof.Machine.execV64x2Swizzle d a c s
  | .v8x16Shuffle d a b c => Sys2Proof.Machine.execV8x16Shuffle d a b c s
  | .v16x8Shuffle d a b c => Sys2Proof.Machine.execV16x8Shuffle d a b c s
  | .v32x4Shuffle d a b c => Sys2Proof.Machine.execV32x4Shuffle d a b c s
  | .v64x2Shuffle d a b c => Sys2Proof.Machine.execV64x2Shuffle d a b c s
  | .i8x16Add d a b => Sys2Proof.Machine.execI8x16Add d a b s
  | .i16x8Add d a b => Sys2Proof.Machine.execI16x8Add d a b s
  | .i32x4Add d a b => Sys2Proof.Machine.execI32x4Add d a b s
  | .i64x2Add d a b => Sys2Proof.Machine.execI64x2Add d a b s
  | .i8x16Sub d a b => Sys2Proof.Machine.execI8x16Sub d a b s
  | .i16x8Sub d a b => Sys2Proof.Machine.execI16x8Sub d a b s
  | .i32x4Sub d a b => Sys2Proof.Machine.execI32x4Sub d a b s
  | .i64x2Sub d a b => Sys2Proof.Machine.execI64x2Sub d a b s
  | .i8x16Mul d a b => Sys2Proof.Machine.execI8x16Mul d a b s
  | .i16x8Mul d a b => Sys2Proof.Machine.execI16x8Mul d a b s
  | .i32x4Mul d a b => Sys2Proof.Machine.execI32x4Mul d a b s
  | .i64x2Mul d a b => Sys2Proof.Machine.execI64x2Mul d a b s
  | .i8x16Neg d a => Sys2Proof.Machine.execI8x16Neg d a s
  | .i16x8Neg d a => Sys2Proof.Machine.execI16x8Neg d a s
  | .i32x4Neg d a => Sys2Proof.Machine.execI32x4Neg d a s
  | .i64x2Neg d a => Sys2Proof.Machine.execI64x2Neg d a s
  | .s8x16AddSaturate d a b => Sys2Proof.Machine.execS8x16AddSaturate d a b s
  | .s16x8AddSaturate d a b => Sys2Proof.Machine.execS16x8AddSaturate d a b s
  | .u8x16AddSaturate d a b => Sys2Proof.Machine.execU8x16AddSaturate d a b s
  | .u16x8AddSaturate d a b => Sys2Proof.Machine.execU16x8AddSaturate d a b s
  | .s8x16SubSaturate d a b => Sys2Proof.Machine.execS8x16SubSaturate d a b s
  | .s16x8SubSaturate d a b => Sys2Proof.Machine.execS16x8SubSaturate d a b s
  | .u8x16SubSaturate d a b => Sys2Proof.Machine.execU8x16SubSaturate d a b s
  | .u16x8SubSaturate d a b => Sys2Proof.Machine.execU16x8SubSaturate d a b s
  | .i8x16ShiftLeftByScalar d a y => Sys2Proof.Machine.execI8x16ShiftLeftByScalar d a y s
  | .i16x8ShiftLeftByScalar d a y => Sys2Proof.Machine.execI16x8ShiftLeftByScalar d a y s
  | .i32x4ShiftLeftByScalar d a y => Sys2Proof.Machine.execI32x4ShiftLeftByScalar d a y s
  | .i64x2ShiftLeftByScalar d a y => Sys2Proof.Machine.execI64x2ShiftLeftByScalar d a y s
  | .s8x16ShiftRightByScalar d a y => Sys2Proof.Machine.execS8x16ShiftRightByScalar d a y s
  | .s16x8ShiftRightByScalar d a y => Sys2Proof.Machine.execS16x8ShiftRightByScalar d a y s
  | .s32x4ShiftRightByScalar d a y => Sys2Proof.Machine.execS32x4ShiftRightByScalar d a y s
  | .s64x2ShiftRightByScalar d a y => Sys2Proof.Machine.execS64x2ShiftRightByScalar d a y s
  | .u8x16ShiftRightByScalar d a y => Sys2Proof.Machine.execU8x16ShiftRightByScalar d a y s
  | .u16x8ShiftRightByScalar d a y => Sys2Proof.Machine.execU16x8ShiftRightByScalar d a y s
  | .u32x4ShiftRightByScalar d a y => Sys2Proof.Machine.execU32x4ShiftRightByScalar d a y s
  | .u64x2ShiftRightByScalar d a y => Sys2Proof.Machine.execU64x2ShiftRightByScalar d a y s
  | .b8x16And d a b => Sys2Proof.Machine.execB8x16And d a b s
  | .b16x8And d a b => Sys2Proof.Machine.execB16x8And d a b s
  | .b32x4And d a b => Sys2Proof.Machine.execB32x4And d a b s
  | .b64x2And d a b => Sys2Proof.Machine.execB64x2And d a b s
  | .b8x16Or d a b => Sys2Proof.Machine.execB8x16Or d a b s
  | .b16x8Or d a b => Sys2Proof.Machine.execB16x8Or d a b s
  | .b32x4Or d a b => Sys2Proof.Machine.execB32x4Or d a b s
  | .b64x2Or d a b => Sys2Proof.Machine.execB64x2Or d a b s
  | .b8x16Xor d a b => Sys2Proof.Machine.execB8x16Xor d a b s
  | .b16x8Xor d a b => Sys2Proof.Machine.execB16x8Xor d a b s
  | .b32x4Xor d a b => Sys2Proof.Machine.execB32x4Xor d a b s
  | .b64x2Xor d a b => Sys2Proof.Machine.execB64x2Xor d a b s
  | .b8x16Not d a => Sys2Proof.Machine.execB8x16Not d a s
  | .b16x8Not d a => Sys2Proof.Machine.execB16x8Not d a s
  | .b32x4Not d a => Sys2Proof.Machine.execB32x4Not d a s
  | .b64x2Not d a => Sys2Proof.Machine.execB64x2Not d a s
  | .v128And d a b => Sys2Proof.Machine.execV128And d a b s
  | .v128Or d a b => Sys2Proof.Machine.execV128Or d a b s
  | .v128Xor d a b => Sys2Proof.Machine.execV128Xor d a b s
  | .v128Not d a => Sys2Proof.Machine.execV128Not d a s
  | .b8x16AnyTrue d a => Sys2Proof.Machine.execB8x16AnyTrue d a s
  | .b16x8AnyTrue d a => Sys2Proof.Machine.execB16x8AnyTrue d a s
  | .b32x4AnyTrue d a => Sys2Proof.Machine.execB32x4AnyTrue d a s
  | .b64x2AnyTrue d a => Sys2Proof.Machine.execB64x2AnyTrue d a s
  | .b8x16AllTrue d a => Sys2Proof.Machine.execB8x16AllTrue d a s
  | .b16x8AllTrue d a => Sys2Proof.Machine.execB16x8AllTrue d a s
  | .b32x4AllTrue d a => Sys2Proof.Machine.execB32x4AllTrue d a s
  | .b64x2AllTrue d a => Sys2Proof.Machine.execB64x2AllTrue d a s
  | .i8x16Equal d a b => Sys2Proof.Machine.execI8x16Equal d a b s
  | .i16x8Equal d a b => Sys2Proof.Machine.execI16x8Equal d a b s
  | .i32x4Equal d a b => Sys2Proof.Machine.execI32x4Equal d a b s
  | .i64x2Equal d a b => Sys2Proof.Machine.execI64x2Equal d a b s
  | .f32x4Equal d a b => Sys2Proof.Machine.execF32x4Equal d a b s
  | .f64x2Equal d a b => Sys2Proof.Machine.execF64x2Equal d a b s
  | .i8x16NotEqual d a b => Sys2Proof.Machine.execI8x16NotEqual d a b s
  | .i16x8NotEqual d a b => Sys2Proof.Machine.execI16x8NotEqual d a b s
  | .i32x4NotEqual d a b => Sys2Proof.Machine.execI32x4NotEqual d a b s
  | .i64x2NotEqual d a b => Sys2Proof.Machine.execI64x2NotEqual d a b s
  | .f32x4NotEqual d a b => Sys2Proof.Machine.execF32x4NotEqual d a b s
  | .f64x2NotEqual d a b => Sys2Proof.Machine.execF64x2NotEqual d a b s
  | .s8x16LessThan d a b => Sys2Proof.Machine.execS8x16LessThan d a b s
  | .s16x8LessThan d a b => Sys2Proof.Machine.execS16x8LessThan d a b s
  | .s32x4LessThan d a b => Sys2Proof.Machine.execS32x4LessThan d a b s
  | .s64x2LessThan d a b => Sys2Proof.Machine.execS64x2LessThan d a b s
  | .u8x16LessThan d a b => Sys2Proof.Machine.execU8x16LessThan d a b s
  | .u16x8LessThan d a b => Sys2Proof.Machine.execU16x8LessThan d a b s
  | .u32x4LessThan d a b => Sys2Proof.Machine.execU32x4LessThan d a b s
  | .u64x2LessThan d a b => Sys2Proof.Machine.execU64x2LessThan d a b s
  | .f32x4LessThan d a b => Sys2Proof.Machine.execF32x4LessThan d a b s
  | .f64x2LessThan d a b => Sys2Proof.Machine.execF64x2LessThan d a b s
  | .s8x16LessThanOrEqual d a b => Sys2Proof.Machine.execS8x16LessThanOrEqual d a b s
  | .s16x8LessThanOrEqual d a b => Sys2Proof.Machine.execS16x8LessThanOrEqual d a b s
  | .s32x4LessThanOrEqual d a b => Sys2Proof.Machine.execS32x4LessThanOrEqual d a b s
  | .s64x2LessThanOrEqual d a b => Sys2Proof.Machine.execS64x2LessThanOrEqual d a b s
  | .u8x16LessThanOrEqual d a b => Sys2Proof.Machine.execU8x16LessThanOrEqual d a b s
  | .u16x8LessThanOrEqual d a b => Sys2Proof.Machine.execU16x8LessThanOrEqual d a b s
  | .u32x4LessThanOrEqual d a b => Sys2Proof.Machine.execU32x4LessThanOrEqual d a b s
  | .u64x2LessThanOrEqual d a b => Sys2Proof.Machine.execU64x2LessThanOrEqual d a b s
  | .f32x4LessThanOrEqual d a b => Sys2Proof.Machine.execF32x4LessThanOrEqual d a b s
  | .f64x2LessThanOrEqual d a b => Sys2Proof.Machine.execF64x2LessThanOrEqual d a b s
  | .s8x16GreaterThan d a b => Sys2Proof.Machine.execS8x16GreaterThan d a b s
  | .s16x8GreaterThan d a b => Sys2Proof.Machine.execS16x8GreaterThan d a b s
  | .s32x4GreaterThan d a b => Sys2Proof.Machine.execS32x4GreaterThan d a b s
  | .s64x2GreaterThan d a b => Sys2Proof.Machine.execS64x2GreaterThan d a b s
  | .u8x16GreaterThan d a b => Sys2Proof.Machine.execU8x16GreaterThan d a b s
  | .u16x8GreaterThan d a b => Sys2Proof.Machine.execU16x8GreaterThan d a b s
  | .u32x4GreaterThan d a b => Sys2Proof.Machine.execU32x4GreaterThan d a b s
  | .u64x2GreaterThan d a b => Sys2Proof.Machine.execU64x2GreaterThan d a b s
  | .f32x4GreaterThan d a b => Sys2Proof.Machine.execF32x4GreaterThan d a b s
  | .f64x2GreaterThan d a b => Sys2Proof.Machine.execF64x2GreaterThan d a b s
  | .s8x16GreaterThanOrEqual d a b => Sys2Proof.Machine.execS8x16GreaterThanOrEqual d a b s
  | .s16x8GreaterThanOrEqual d a b => Sys2Proof.Machine.execS16x8GreaterThanOrEqual d a b s
  | .s32x4GreaterThanOrEqual d a b => Sys2Proof.Machine.execS32x4GreaterThanOrEqual d a b s
  | .s64x2GreaterThanOrEqual d a b => Sys2Proof.Machine.execS64x2GreaterThanOrEqual d a b s
  | .u8x16GreaterThanOrEqual d a b => Sys2Proof.Machine.execU8x16GreaterThanOrEqual d a b s
  | .u16x8GreaterThanOrEqual d a b => Sys2Proof.Machine.execU16x8GreaterThanOrEqual d a b s
  | .u32x4GreaterThanOrEqual d a b => Sys2Proof.Machine.execU32x4GreaterThanOrEqual d a b s
  | .u64x2GreaterThanOrEqual d a b => Sys2Proof.Machine.execU64x2GreaterThanOrEqual d a b s
  | .f32x4GreaterThanOrEqual d a b => Sys2Proof.Machine.execF32x4GreaterThanOrEqual d a b s
  | .f64x2GreaterThanOrEqual d a b => Sys2Proof.Machine.execF64x2GreaterThanOrEqual d a b s
  | .v8x16Load d mem addr => Sys2Proof.Machine.execV8x16Load d mem addr s
  | .v16x8Load d mem addr => Sys2Proof.Machine.execV16x8Load d mem addr s
  | .v32x4Load d mem addr => Sys2Proof.Machine.execV32x4Load d mem addr s
  | .v64x2Load d mem addr => Sys2Proof.Machine.execV64x2Load d mem addr s
  | .v8x16Store mem addr data => Sys2Proof.Machine.execV8x16Store mem addr data s
  | .v16x8Store mem addr data => Sys2Proof.Machine.execV16x8Store mem addr data s
  | .v32x4Store mem addr data => Sys2Proof.Machine.execV32x4Store mem addr data s
  | .v64x2Store mem addr data => Sys2Proof.Machine.execV64x2Store mem addr data s
  | .v32x4Load1 d mem addr => Sys2Proof.Machine.execV32x4Load1 d mem addr s
  | .v32x4Load2 d mem addr => Sys2Proof.Machine.execV32x4Load2 d mem addr s
  | .v32x4Load3 d mem addr => Sys2Proof.Machine.execV32x4Load3 d mem addr s
  | .v32x4Store1 mem addr data => Sys2Proof.Machine.execV32x4Store1 mem addr data s
  | .v32x4Store2 mem addr data => Sys2Proof.Machine.execV32x4Store2 mem addr data s
  | .v32x4Store3 mem addr data => Sys2Proof.Machine.execV32x4Store3 mem addr data s
  | .f32x4Neg d a => Sys2Proof.Machine.execF32x4Neg d a s
  | .f64x2Neg d a => Sys2Proof.Machine.execF64x2Neg d a s
  | .f32x4Abs d a => Sys2Proof.Machine.execF32x4Abs d a s
  | .f64x2Abs d a => Sys2Proof.Machine.execF64x2Abs d a s
  | .f32x4Min d a b => Sys2Proof.Machine.execF32x4Min d a b s
  | .f64x2Min d a b => Sys2Proof.Machine.execF64x2Min d a b s
  | .f32x4Max d a b => Sys2Proof.Machine.execF32x4Max d a b s
  | .f64x2Max d a b => Sys2Proof.Machine.execF64x2Max d a b s
  | .f32x4MinNum d a b => Sys2Proof.Machine.execF32x4MinNum d a b s
  | .f64x2MinNum d a b => Sys2Proof.Machine.execF64x2MinNum d a b s
  | .f32x4MaxNum d a b => Sys2Proof.Machine.execF32x4MaxNum d a b s
  | .f64x2MaxNum d a b => Sys2Proof.Machine.execF64x2MaxNum d a b s
  | .f32x4Add d a b rm => Sys2Proof.Machine.execF32x4Add d a b rm s
  | .f64x2Add d a b rm => Sys2Proof.Machine.execF64x2Add d a b rm s
  | .f32x4Sub d a b rm => Sys2Proof.Machine.execF32x4Sub d a b rm s
  | .f64x2Sub d a b rm => Sys2Proof.Machine.execF64x2Sub d a b rm s
  | .f32x4Div d a b rm => Sys2Proof.Machine.execF32x4Div d a b rm s
  | .f64x2Div d a b rm => Sys2Proof.Machine.execF64x2Div d a b rm s
  | .f32x4Mul d a b rm => Sys2Proof.Machine.execF32x4Mul d a b rm s
  | .f64x2Mul d a b rm => Sys2Proof.Machine.execF64x2Mul d a b rm s
  | .f32x4Sqrt d a rm => Sys2Proof.Machine.execF32x4Sqrt d a rm s
  | .f64x2Sqrt d a rm => Sys2Proof.Machine.execF64x2Sqrt d a rm s
  | .f32x4ReciprocalApproximation d a => Sys2Proof.Machine.execF32x4ReciprocalApproximation d a s
  | .f64x2ReciprocalApproximation d a => Sys2Proof.Machine.execF64x2ReciprocalApproximation d a s
  | .f32x4ReciprocalSqrtApproximation d a => Sys2Proof.Machine.execF32x4ReciprocalSqrtApproximation d a s
  | .f64x2ReciprocalSqrtApproximation d a => Sys2Proof.Machine.execF64x2ReciprocalSqrtApproximation d a s
  | .f32x4FromSignedInt d a rm => Sys2Proof.Machine.execF32x4FromSignedInt d a rm s
  | .f64x2FromSignedInt d a rm => Sys2Proof.Machine.execF64x2FromSignedInt d a rm s
  | .f32x4FromUnsignedInt d a rm => Sys2Proof.Machine.execF32x4FromUnsignedInt d a rm s
  | .f64x2FromUnsignedInt d a rm => Sys2Proof.Machine.execF64x2FromUnsignedInt d a rm s
  | .s32x4FromFloat d1 d2 a => Sys2Proof.Machine.execS32x4FromFloat d1 d2 a s
  | .s64x2FromFloat d1 d2 a => Sys2Proof.Machine.execS64x2FromFloat d1 d2 a s
  | .u32x4FromFloat d1 d2 a => Sys2Proof.Machine.execU32x4FromFloat d1 d2 a s
  | .u64x2FromFloat d1 d2 a => Sys2Proof.Machine.execU64x2FromFloat d1 d2 a s

end Sys2Proof.Machine
end

