-- ==== Sys2Proof/Decode.lean ====
section
/-! DEFINITION. The decoder, from statement text to an instruction or the check it fails, and the encoder. The text of a
statement is its encoding (30_encoding.md R100, R109); its syntax is that of R107 and R114. Both are written from the same
rules, the decoder from the formats of R103 row by row, the encoder from the signature table. -/

namespace Sys2Proof

/-! ### Tokens -/

/-- What statement text consists of: words (names, mnemonics, numerals, the `_W` of a literal) and seven marks. -/
inductive Token where
  | word (w : Text)
  | lpar
  | rpar
  | lbr
  | rbr
  | comma
  | eq
  | colon
deriving DecidableEq, Repr

/-- A character of a word: a name character or the dot of a mnemonic. -/
def isWordChar (c : Char) : Bool := isNameChar c || c == '.'

/-- The token of a one-character mark. -/
def markToken (c : Char) : Option Token :=
  if c == '(' then some .lpar
  else if c == ')' then some .rpar
  else if c == '[' then some .lbr
  else if c == ']' then some .rbr
  else if c == ',' then some .comma
  else if c == '=' then some .eq
  else if c == ':' then some .colon
  else none

/-- A finished word put before the tokens that follow it. -/
def pushWord (w : Text) (ts : List Token) : List Token := if w = [] then ts else .word w :: ts

/-- The text read from its end: the word that the text starts with, as far as it goes, and the tokens after it. Spaces
separate tokens and mean nothing else (log entry 1). -/
def lexFrom : Text → Option (Text × List Token)
  | [] => some ([], [])
  | c :: cs =>
    match lexFrom cs with
    | none => none
    | some (w, ts) =>
      if isWordChar c then some (c :: w, ts)
      else if c == ' ' then some ([], pushWord w ts)
      else
        match markToken c with
        | some t => some ([], t :: pushWord w ts)
        | none => none

/-- The tokens of a text; `none` when a character is of no token. -/
def lex (t : Text) : Option (List Token) :=
  match lexFrom t with
  | some (w, ts) => some (pushWord w ts)
  | none => none

/-! ### Statements as syntax -/

/-- An element of a list, or an operand that is no list: a word, or a pattern with its type `p:T`. -/
inductive Elem where
  | word (w : Text)
  | typed (p τ : Text)
deriving DecidableEq, Repr

/-- An operand as written: one element, or a bracketed list with the word that follows it at once (`_W`), if any. -/
inductive RawArg where
  | elem (e : Elem)
  | list (es : List Elem) (suffix : Option Text)
deriving DecidableEq, Repr

/-- A statement as written. -/
structure RawStatement where
  dests : List Ident
  mnemonic : Text
  args : List RawArg
deriving DecidableEq, Repr

/-- The elements of a list up to its closing bracket, and the tokens after it. -/
def parseElems : List Token → Option (List Elem × List Token)
  | .word p :: .colon :: .word τ :: .comma :: r =>
    match parseElems r with
    | some (es, r') => some (.typed p τ :: es, r')
    | none => none
  | .word p :: .colon :: .word τ :: .rbr :: r => some ([.typed p τ], r)
  | .word w :: .comma :: r =>
    match parseElems r with
    | some (es, r') => some (.word w :: es, r')
    | none => none
  | .word w :: .rbr :: r => some ([.word w], r)
  | _ => none

/-- One operand, and the tokens after it. -/
def parseArg : List Token → Option (RawArg × List Token)
  | .lbr :: .rbr :: r => some (.list [] none, r)
  | .lbr :: r =>
    match parseElems r with
    | some (es, .word w :: r') => some (.list es (some w), r')
    | some (es, r') => some (.list es none, r')
    | none => none
  | .word p :: .colon :: .word τ :: r => some (.elem (.typed p τ), r)
  | .word w :: r => some (.elem (.word w), r)
  | _ => none

/-- The operands up to the closing parenthesis, which ends the statement. The first argument bounds their number. -/
def parseArgs : Nat → List Token → Option (List RawArg)
  | 0, _ => none
  | n + 1, ts =>
    match parseArg ts with
    | some (a, .comma :: r) =>
      match parseArgs n r with
      | some as => some (a :: as)
      | none => none
    | some (a, [.rpar]) => some [a]
    | _ => none

/-- The operands of a call, from after its opening parenthesis. -/
def parseCall (ds : List Ident) (m : Text) (ts : List Token) : Option RawStatement :=
  if ts = [.rpar] then some ⟨ds, m, []⟩
  else
    match parseArgs ts.length ts with
    | some as => some ⟨ds, m, as⟩
    | none => none

/-- The three forms of a statement (R109): `(d1, d2) = M(...)`, `d = M(...)` and `M(...)`. -/
def parseStatement : List Token → Option RawStatement
  | .lpar :: .word d1 :: .comma :: .word d2 :: .rpar :: .eq :: .word m :: .lpar :: ts => parseCall [d1, d2] m ts
  | .word d :: .eq :: .word m :: .lpar :: ts => parseCall [d] m ts
  | .word m :: .lpar :: ts => parseCall [] m ts
  | _ => none

/-! ### Numerals -/

/-- The value of a digit, either case of the letters, below 16. -/
def digitValue (c : Char) : Option Nat :=
  if '0'.toNat ≤ c.toNat ∧ c.toNat ≤ '9'.toNat then some (c.toNat - '0'.toNat)
  else if 'a'.toNat ≤ c.toNat ∧ c.toNat ≤ 'f'.toNat then some (c.toNat - 'a'.toNat + 10)
  else if 'A'.toNat ≤ c.toNat ∧ c.toNat ≤ 'F'.toNat then some (c.toNat - 'A'.toNat + 10)
  else none

/-- Digits of a base read after the number `n` read so far. -/
def readDigits (base : Nat) : Nat → Text → Option Nat
  | n, [] => some n
  | n, c :: r =>
    match digitValue c with
    | some k => if k < base then readDigits base (n * base + k) r else none
    | none => none

/-- A decimal numeral. -/
def readDecimal (w : Text) : Option Nat := if w = [] then none else readDigits 10 0 w

/-- A decimal or `0x` hexadecimal numeral (R107). -/
def readNumeral (w : Text) : Option Nat :=
  match w with
  | '0' :: 'x' :: r => if r = [] then none else readDigits 16 0 r
  | _ => readDecimal w

/-- A pattern of `W` bits: a numeral below `2^W` (R108: "a pattern fits its width"). -/
def readPattern (W : Nat) (w : Text) : Option (BitVec W) :=
  match readNumeral w with
  | some n => if n < 2 ^ W then some (BitVec.ofNat W n) else none
  | none => none

/-! ### Operands (R104, R107); `none` is a failure of `operand_types` -/

/-- The name of a type. -/
def Ty.name : Ty → Text
  | .v128 => ['v', '1', '2', '8']
  | .b8x16 => ['b', '8', 'x', '1', '6']
  | .b16x8 => ['b', '1', '6', 'x', '8']
  | .b32x4 => ['b', '3', '2', 'x', '4']
  | .b64x2 => ['b', '6', '4', 'x', '2']
  | .i8 => ['i', '8']
  | .i16 => ['i', '1', '6']
  | .i32 => ['i', '3', '2']
  | .i64 => ['i', '6', '4']
  | .f32 => ['f', '3', '2']
  | .f64 => ['f', '6', '4']
  | .boolean => ['b', 'o', 'o', 'l', 'e', 'a', 'n']

/-- The name of a rounding mode. -/
def RoundingMode.name : RoundingMode → Text
  | .tiesToEven => ['T', 'i', 'e', 's', 'T', 'o', 'E', 'v', 'e', 'n']
  | .towardPositive => ['T', 'o', 'w', 'a', 'r', 'd', 'P', 'o', 's', 'i', 't', 'i', 'v', 'e']
  | .towardNegative => ['T', 'o', 'w', 'a', 'r', 'd', 'N', 'e', 'g', 'a', 't', 'i', 'v', 'e']
  | .towardZero => ['T', 'o', 'w', 'a', 'r', 'd', 'Z', 'e', 'r', 'o']

/-- Every element of a list read, in order. -/
def readAll {α β : Type} (f : α → Option β) : List α → Option (List β)
  | [] => some []
  | x :: r =>
    match f x, readAll f r with
    | some y, some ys => some (y :: ys)
    | _, _ => none

/-- Exactly `n` elements read. -/
def readLanes {α β : Type} (n : Nat) (f : α → Option β) (l : List α) : Option (Lanes β n) :=
  match readAll f l with
  | some ys => Lanes.ofList? n ys
  | none => none

/-- A name. -/
def rdName : RawArg → Option Ident
  | .elem (.word w) => if Ident.valid w then some w else none
  | .elem (.typed _ _) => none
  | .list _ _ => none

/-- An element of a `v128` literal: an untyped pattern. -/
def rdLane (W : Nat) : Elem → Option (BitVec W)
  | .word w => readPattern W w
  | .typed _ _ => none

/-- A `v128` operand: a slot name, or a lane list with its lane width. -/
def rdVector : RawArg → Option VOperand
  | .elem (.word w) => if Ident.valid w then some (.slot w) else none
  | .elem (.typed _ _) => none
  | .list _ none => none
  | .list es (some sfx) =>
    if sfx = ['_', '8'] then (readLanes 16 (rdLane 8) es).map fun v => .lit (.w8 v)
    else if sfx = ['_', '1', '6'] then (readLanes 8 (rdLane 16) es).map fun v => .lit (.w16 v)
    else if sfx = ['_', '3', '2'] then (readLanes 4 (rdLane 32) es).map fun v => .lit (.w32 v)
    else if sfx = ['_', '6', '4'] then (readLanes 2 (rdLane 64) es).map fun v => .lit (.w64 v)
    else none

/-- A boolean in a list. R107 writes the elements of a boolean vector literal `t`, `f` and those of a boolean array `true`,
`false`; 95_test_vectors.md section 2.1 writes `t`, `f` in an array too. DESIGN CHOICE (log entry 1): either spelling is read
in either place, so that `[true, false]` is a boolean vector literal as well. -/
def readTF (w : Text) : Option Bool :=
  if w = ['t'] ∨ w = ['t', 'r', 'u', 'e'] then some true
  else if w = ['f'] ∨ w = ['f', 'a', 'l', 's', 'e'] then some false
  else none

/-- An element of a boolean vector literal. -/
def rdTF : Elem → Option Bool
  | .word w => readTF w
  | .typed _ _ => none

/-- A boolean vector operand of `n` lanes: a slot name or `[t, f, ...]`. -/
def rdMask (n : Nat) : RawArg → Option (Operand (Lanes Bool n))
  | .elem (.word w) => if Ident.valid w then some (.slot w) else none
  | .elem (.typed _ _) => none
  | .list es none => (readLanes n rdTF es).map .lit
  | .list _ (some _) => none

/-- A scalar of type `τ` and width `W`: a slot name, a pattern with its type, or a bare pattern, as in the source's own
examples (R114, log entry 1). -/
def rdScalarElem (τ : Ty) (W : Nat) : Elem → Option (Operand (BitVec W))
  | .word w => if Ident.valid w then some (.slot w) else (readPattern W w).map .lit
  | .typed p σ => if σ = τ.name then (readPattern W p).map .lit else none

/-- A scalar operand. -/
def rdScalar (τ : Ty) (W : Nat) : RawArg → Option (Operand (BitVec W))
  | .elem e => rdScalarElem τ W e
  | .list _ _ => none

/-- A boolean operand: `true`, `false` or a slot name. -/
def rdBoolean : RawArg → Option (Operand Bool)
  | .elem (.word w) =>
    if w = ['t', 'r', 'u', 'e'] then some (.lit true)
    else if w = ['f', 'a', 'l', 's', 'e'] then some (.lit false)
    else if Ident.valid w then some (.slot w) else none
  | .elem (.typed _ _) => none
  | .list _ _ => none

/-- An array of `n` scalars. -/
def rdScalars (τ : Ty) (W n : Nat) : RawArg → Option (Lanes (Operand (BitVec W)) n)
  | .list es none => readLanes n (rdScalarElem τ W) es
  | .list _ (some _) => none
  | .elem _ => none

/-- An element of a boolean array: a literal, else a slot name. -/
def rdBooleanElem : Elem → Option (Operand Bool)
  | .word w =>
    match readTF w with
    | some b => some (.lit b)
    | none => if Ident.valid w then some (.slot w) else none
  | .typed _ _ => none

/-- An array of `n` booleans. -/
def rdBooleans (n : Nat) : RawArg → Option (Lanes (Operand Bool) n)
  | .list es none => readLanes n rdBooleanElem es
  | .list _ (some _) => none
  | .elem _ => none

/-- A decimal numeral below `n`. -/
def readIndex (n : Nat) (w : Text) : Option (Fin n) :=
  match readDecimal w with
  | some k => if h : k < n then some ⟨k, h⟩ else none
  | none => none

/-- A lane index of type `LaneIdxn`, a decimal numeral (R106: never wrapped or clamped). -/
def rdIndex (n : Nat) : RawArg → Option (Fin n)
  | .elem (.word w) => readIndex n w
  | .elem (.typed _ _) => none
  | .list _ _ => none

/-- An element of an index list. -/
def rdIndexElem (n : Nat) : Elem → Option (Fin n)
  | .word w => readIndex n w
  | .typed _ _ => none

/-- A list of `k` lane indices. -/
def rdIndices (n k : Nat) : RawArg → Option (Lanes (Fin n) k)
  | .list es none => readLanes k (rdIndexElem n) es
  | .list _ (some _) => none
  | .elem _ => none

/-- A rounding mode by its name (10_state.md R34). -/
def rdRounding : RawArg → Option RoundingMode
  | .elem (.word w) => [RoundingMode.tiesToEven, .towardPositive, .towardNegative, .towardZero].find? fun rm => rm.name == w
  | .elem (.typed _ _) => none
  | .list _ _ => none

/-- A ByteOffset: a decimal or hexadecimal numeral. -/
def rdOffset : RawArg → Option Nat
  | .elem (.word w) => readNumeral w
  | .elem (.typed _ _) => none
  | .list _ _ => none

/-! ### Formats (R103) -/

/-- How the destinations and operands of one mnemonic are read. -/
abbrev Row := List Ident → List RawArg → Except Check Instr

/-- An instruction, or `operand_types`. -/
def orIll (o : Option Instr) : Except Check Instr :=
  match o with
  | some i => .ok i
  | none => .error .operandTypes

/-- One destination, one operand. -/
def form1 {α : Type} (ra : RawArg → Option α) (mk : Ident → α → Instr) : Row
  | [d], [a] => orIll ((ra a).map (mk d))
  | _, _ => .error .arity

/-- One destination, two operands. -/
def form2 {α β : Type} (ra : RawArg → Option α) (rb : RawArg → Option β) (mk : Ident → α → β → Instr) : Row
  | [d], [a, b] =>
    match ra a, rb b with
    | some x, some y => .ok (mk d x y)
    | _, _ => .error .operandTypes
  | _, _ => .error .arity

/-- One destination, three operands. -/
def form3 {α β γ : Type} (ra : RawArg → Option α) (rb : RawArg → Option β) (rc : RawArg → Option γ)
    (mk : Ident → α → β → γ → Instr) : Row
  | [d], [a, b, c] =>
    match ra a, rb b, rc c with
    | some x, some y, some z => .ok (mk d x y z)
    | _, _, _ => .error .operandTypes
  | _, _ => .error .arity

/-- No destination, three operands: a store. -/
def formStore (mk : Ident → Nat → VOperand → Instr) : Row
  | [], [a, b, c] =>
    match rdName a, rdOffset b, rdVector c with
    | some x, some y, some z => .ok (mk x y z)
    | _, _, _ => .error .operandTypes
  | _, _ => .error .arity

/-- Two destinations, one operand: `fromFloat`. The two names differ. -/
def formConvert (mk : Ident → Ident → VOperand → Instr) : Row
  | [d1, d2], [a] =>
    match rdVector a with
    | some x => if d1 = d2 then .error .distinctDestinations else .ok (mk d1 d2 x)
    | none => .error .operandTypes
  | _, _ => .error .arity

/-! ### The table (R111), in the order of the ordinals -/

/-- The rows of build, splat (R202 to R221). -/
def rowsConstruct : List (Mnemonic × Row) := [
  (⟨.b8x16, .build⟩, form1 (rdBooleans 16) .b8x16Build),
  (⟨.b16x8, .build⟩, form1 (rdBooleans 8) .b16x8Build),
  (⟨.b32x4, .build⟩, form1 (rdBooleans 4) .b32x4Build),
  (⟨.b64x2, .build⟩, form1 (rdBooleans 2) .b64x2Build),
  (⟨.i8x16, .build⟩, form1 (rdScalars .i8 8 16) .i8x16Build),
  (⟨.i16x8, .build⟩, form1 (rdScalars .i16 16 8) .i16x8Build),
  (⟨.i32x4, .build⟩, form1 (rdScalars .i32 32 4) .i32x4Build),
  (⟨.i64x2, .build⟩, form1 (rdScalars .i64 64 2) .i64x2Build),
  (⟨.f32x4, .build⟩, form1 (rdScalars .f32 32 4) .f32x4Build),
  (⟨.f64x2, .build⟩, form1 (rdScalars .f64 64 2) .f64x2Build),
  (⟨.b8x16, .splat⟩, form1 rdBoolean .b8x16Splat),
  (⟨.b16x8, .splat⟩, form1 rdBoolean .b16x8Splat),
  (⟨.b32x4, .splat⟩, form1 rdBoolean .b32x4Splat),
  (⟨.b64x2, .splat⟩, form1 rdBoolean .b64x2Splat),
  (⟨.i8x16, .splat⟩, form1 (rdScalar .i8 8) .i8x16Splat),
  (⟨.i16x8, .splat⟩, form1 (rdScalar .i16 16) .i16x8Splat),
  (⟨.i32x4, .splat⟩, form1 (rdScalar .i32 32) .i32x4Splat),
  (⟨.i64x2, .splat⟩, form1 (rdScalar .i64 64) .i64x2Splat),
  (⟨.f32x4, .splat⟩, form1 (rdScalar .f32 32) .f32x4Splat),
  (⟨.f64x2, .splat⟩, form1 (rdScalar .f64 64) .f64x2Splat)]

/-- The rows of lane access (R235 to R266). -/
def rowsAccess : List (Mnemonic × Row) := [
  (⟨.b8x16, .extractLane⟩, form2 (rdMask 16) (rdIndex 16) .b8x16ExtractLane),
  (⟨.b16x8, .extractLane⟩, form2 (rdMask 8) (rdIndex 8) .b16x8ExtractLane),
  (⟨.b32x4, .extractLane⟩, form2 (rdMask 4) (rdIndex 4) .b32x4ExtractLane),
  (⟨.b64x2, .extractLane⟩, form2 (rdMask 2) (rdIndex 2) .b64x2ExtractLane),
  (⟨.i8x16, .extractLane⟩, form2 rdVector (rdIndex 16) .i8x16ExtractLane),
  (⟨.i16x8, .extractLane⟩, form2 rdVector (rdIndex 8) .i16x8ExtractLane),
  (⟨.i32x4, .extractLane⟩, form2 rdVector (rdIndex 4) .i32x4ExtractLane),
  (⟨.i64x2, .extractLane⟩, form2 rdVector (rdIndex 2) .i64x2ExtractLane),
  (⟨.f32x4, .extractLane⟩, form2 rdVector (rdIndex 4) .f32x4ExtractLane),
  (⟨.f64x2, .extractLane⟩, form2 rdVector (rdIndex 2) .f64x2ExtractLane),
  (⟨.b8x16, .replaceLane⟩, form3 (rdMask 16) (rdIndex 16) rdBoolean .b8x16ReplaceLane),
  (⟨.b16x8, .replaceLane⟩, form3 (rdMask 8) (rdIndex 8) rdBoolean .b16x8ReplaceLane),
  (⟨.b32x4, .replaceLane⟩, form3 (rdMask 4) (rdIndex 4) rdBoolean .b32x4ReplaceLane),
  (⟨.b64x2, .replaceLane⟩, form3 (rdMask 2) (rdIndex 2) rdBoolean .b64x2ReplaceLane),
  (⟨.i8x16, .replaceLane⟩, form3 rdVector (rdIndex 16) (rdScalar .i8 8) .i8x16ReplaceLane),
  (⟨.i16x8, .replaceLane⟩, form3 rdVector (rdIndex 8) (rdScalar .i16 16) .i16x8ReplaceLane),
  (⟨.i32x4, .replaceLane⟩, form3 rdVector (rdIndex 4) (rdScalar .i32 32) .i32x4ReplaceLane),
  (⟨.i64x2, .replaceLane⟩, form3 rdVector (rdIndex 2) (rdScalar .i64 64) .i64x2ReplaceLane),
  (⟨.f32x4, .replaceLane⟩, form3 rdVector (rdIndex 4) (rdScalar .f32 32) .f32x4ReplaceLane),
  (⟨.f64x2, .replaceLane⟩, form3 rdVector (rdIndex 2) (rdScalar .f64 64) .f64x2ReplaceLane),
  (⟨.v8x16, .select⟩, form3 (rdMask 16) rdVector rdVector .v8x16Select),
  (⟨.v16x8, .select⟩, form3 (rdMask 8) rdVector rdVector .v16x8Select),
  (⟨.v32x4, .select⟩, form3 (rdMask 4) rdVector rdVector .v32x4Select),
  (⟨.v64x2, .select⟩, form3 (rdMask 2) rdVector rdVector .v64x2Select),
  (⟨.v8x16, .swizzle⟩, form2 rdVector (rdIndices 16 16) .v8x16Swizzle),
  (⟨.v16x8, .swizzle⟩, form2 rdVector (rdIndices 8 8) .v16x8Swizzle),
  (⟨.v32x4, .swizzle⟩, form2 rdVector (rdIndices 4 4) .v32x4Swizzle),
  (⟨.v64x2, .swizzle⟩, form2 rdVector (rdIndices 2 2) .v64x2Swizzle),
  (⟨.v8x16, .shuffle⟩, form3 rdVector rdVector (rdIndices 32 16) .v8x16Shuffle),
  (⟨.v16x8, .shuffle⟩, form3 rdVector rdVector (rdIndices 16 8) .v16x8Shuffle),
  (⟨.v32x4, .shuffle⟩, form3 rdVector rdVector (rdIndices 8 4) .v32x4Shuffle),
  (⟨.v64x2, .shuffle⟩, form3 rdVector rdVector (rdIndices 4 2) .v64x2Shuffle)]

/-- The rows of integer arithmetic (R280 to R315). -/
def rowsArith : List (Mnemonic × Row) := [
  (⟨.i8x16, .add⟩, form2 rdVector rdVector .i8x16Add),
  (⟨.i16x8, .add⟩, form2 rdVector rdVector .i16x8Add),
  (⟨.i32x4, .add⟩, form2 rdVector rdVector .i32x4Add),
  (⟨.i64x2, .add⟩, form2 rdVector rdVector .i64x2Add),
  (⟨.i8x16, .sub⟩, form2 rdVector rdVector .i8x16Sub),
  (⟨.i16x8, .sub⟩, form2 rdVector rdVector .i16x8Sub),
  (⟨.i32x4, .sub⟩, form2 rdVector rdVector .i32x4Sub),
  (⟨.i64x2, .sub⟩, form2 rdVector rdVector .i64x2Sub),
  (⟨.i8x16, .mul⟩, form2 rdVector rdVector .i8x16Mul),
  (⟨.i16x8, .mul⟩, form2 rdVector rdVector .i16x8Mul),
  (⟨.i32x4, .mul⟩, form2 rdVector rdVector .i32x4Mul),
  (⟨.i64x2, .mul⟩, form2 rdVector rdVector .i64x2Mul),
  (⟨.i8x16, .neg⟩, form1 rdVector .i8x16Neg),
  (⟨.i16x8, .neg⟩, form1 rdVector .i16x8Neg),
  (⟨.i32x4, .neg⟩, form1 rdVector .i32x4Neg),
  (⟨.i64x2, .neg⟩, form1 rdVector .i64x2Neg),
  (⟨.s8x16, .addSaturate⟩, form2 rdVector rdVector .s8x16AddSaturate),
  (⟨.s16x8, .addSaturate⟩, form2 rdVector rdVector .s16x8AddSaturate),
  (⟨.u8x16, .addSaturate⟩, form2 rdVector rdVector .u8x16AddSaturate),
  (⟨.u16x8, .addSaturate⟩, form2 rdVector rdVector .u16x8AddSaturate),
  (⟨.s8x16, .subSaturate⟩, form2 rdVector rdVector .s8x16SubSaturate),
  (⟨.s16x8, .subSaturate⟩, form2 rdVector rdVector .s16x8SubSaturate),
  (⟨.u8x16, .subSaturate⟩, form2 rdVector rdVector .u8x16SubSaturate),
  (⟨.u16x8, .subSaturate⟩, form2 rdVector rdVector .u16x8SubSaturate),
  (⟨.i8x16, .shiftLeftByScalar⟩, form2 rdVector (rdScalar .i8 8) .i8x16ShiftLeftByScalar),
  (⟨.i16x8, .shiftLeftByScalar⟩, form2 rdVector (rdScalar .i8 8) .i16x8ShiftLeftByScalar),
  (⟨.i32x4, .shiftLeftByScalar⟩, form2 rdVector (rdScalar .i8 8) .i32x4ShiftLeftByScalar),
  (⟨.i64x2, .shiftLeftByScalar⟩, form2 rdVector (rdScalar .i8 8) .i64x2ShiftLeftByScalar),
  (⟨.s8x16, .shiftRightByScalar⟩, form2 rdVector (rdScalar .i8 8) .s8x16ShiftRightByScalar),
  (⟨.s16x8, .shiftRightByScalar⟩, form2 rdVector (rdScalar .i8 8) .s16x8ShiftRightByScalar),
  (⟨.s32x4, .shiftRightByScalar⟩, form2 rdVector (rdScalar .i8 8) .s32x4ShiftRightByScalar),
  (⟨.s64x2, .shiftRightByScalar⟩, form2 rdVector (rdScalar .i8 8) .s64x2ShiftRightByScalar),
  (⟨.u8x16, .shiftRightByScalar⟩, form2 rdVector (rdScalar .i8 8) .u8x16ShiftRightByScalar),
  (⟨.u16x8, .shiftRightByScalar⟩, form2 rdVector (rdScalar .i8 8) .u16x8ShiftRightByScalar),
  (⟨.u32x4, .shiftRightByScalar⟩, form2 rdVector (rdScalar .i8 8) .u32x4ShiftRightByScalar),
  (⟨.u64x2, .shiftRightByScalar⟩, form2 rdVector (rdScalar .i8 8) .u64x2ShiftRightByScalar)]

/-- The rows of logical and bitwise (R327 to R354). -/
def rowsLogic : List (Mnemonic × Row) := [
  (⟨.b8x16, .and⟩, form2 (rdMask 16) (rdMask 16) .b8x16And),
  (⟨.b16x8, .and⟩, form2 (rdMask 8) (rdMask 8) .b16x8And),
  (⟨.b32x4, .and⟩, form2 (rdMask 4) (rdMask 4) .b32x4And),
  (⟨.b64x2, .and⟩, form2 (rdMask 2) (rdMask 2) .b64x2And),
  (⟨.b8x16, .or⟩, form2 (rdMask 16) (rdMask 16) .b8x16Or),
  (⟨.b16x8, .or⟩, form2 (rdMask 8) (rdMask 8) .b16x8Or),
  (⟨.b32x4, .or⟩, form2 (rdMask 4) (rdMask 4) .b32x4Or),
  (⟨.b64x2, .or⟩, form2 (rdMask 2) (rdMask 2) .b64x2Or),
  (⟨.b8x16, .xor⟩, form2 (rdMask 16) (rdMask 16) .b8x16Xor),
  (⟨.b16x8, .xor⟩, form2 (rdMask 8) (rdMask 8) .b16x8Xor),
  (⟨.b32x4, .xor⟩, form2 (rdMask 4) (rdMask 4) .b32x4Xor),
  (⟨.b64x2, .xor⟩, form2 (rdMask 2) (rdMask 2) .b64x2Xor),
  (⟨.b8x16, .not⟩, form1 (rdMask 16) .b8x16Not),
  (⟨.b16x8, .not⟩, form1 (rdMask 8) .b16x8Not),
  (⟨.b32x4, .not⟩, form1 (rdMask 4) .b32x4Not),
  (⟨.b64x2, .not⟩, form1 (rdMask 2) .b64x2Not),
  (⟨.v128, .and⟩, form2 rdVector rdVector .v128And),
  (⟨.v128, .or⟩, form2 rdVector rdVector .v128Or),
  (⟨.v128, .xor⟩, form2 rdVector rdVector .v128Xor),
  (⟨.v128, .not⟩, form1 rdVector .v128Not),
  (⟨.b8x16, .anyTrue⟩, form1 (rdMask 16) .b8x16AnyTrue),
  (⟨.b16x8, .anyTrue⟩, form1 (rdMask 8) .b16x8AnyTrue),
  (⟨.b32x4, .anyTrue⟩, form1 (rdMask 4) .b32x4AnyTrue),
  (⟨.b64x2, .anyTrue⟩, form1 (rdMask 2) .b64x2AnyTrue),
  (⟨.b8x16, .allTrue⟩, form1 (rdMask 16) .b8x16AllTrue),
  (⟨.b16x8, .allTrue⟩, form1 (rdMask 8) .b16x8AllTrue),
  (⟨.b32x4, .allTrue⟩, form1 (rdMask 4) .b32x4AllTrue),
  (⟨.b64x2, .allTrue⟩, form1 (rdMask 2) .b64x2AllTrue)]

/-- The rows of comparisons (R370 to R421). -/
def rowsCompare : List (Mnemonic × Row) := [
  (⟨.i8x16, .equal⟩, form2 rdVector rdVector .i8x16Equal),
  (⟨.i16x8, .equal⟩, form2 rdVector rdVector .i16x8Equal),
  (⟨.i32x4, .equal⟩, form2 rdVector rdVector .i32x4Equal),
  (⟨.i64x2, .equal⟩, form2 rdVector rdVector .i64x2Equal),
  (⟨.f32x4, .equal⟩, form2 rdVector rdVector .f32x4Equal),
  (⟨.f64x2, .equal⟩, form2 rdVector rdVector .f64x2Equal),
  (⟨.i8x16, .notEqual⟩, form2 rdVector rdVector .i8x16NotEqual),
  (⟨.i16x8, .notEqual⟩, form2 rdVector rdVector .i16x8NotEqual),
  (⟨.i32x4, .notEqual⟩, form2 rdVector rdVector .i32x4NotEqual),
  (⟨.i64x2, .notEqual⟩, form2 rdVector rdVector .i64x2NotEqual),
  (⟨.f32x4, .notEqual⟩, form2 rdVector rdVector .f32x4NotEqual),
  (⟨.f64x2, .notEqual⟩, form2 rdVector rdVector .f64x2NotEqual),
  (⟨.s8x16, .lessThan⟩, form2 rdVector rdVector .s8x16LessThan),
  (⟨.s16x8, .lessThan⟩, form2 rdVector rdVector .s16x8LessThan),
  (⟨.s32x4, .lessThan⟩, form2 rdVector rdVector .s32x4LessThan),
  (⟨.s64x2, .lessThan⟩, form2 rdVector rdVector .s64x2LessThan),
  (⟨.u8x16, .lessThan⟩, form2 rdVector rdVector .u8x16LessThan),
  (⟨.u16x8, .lessThan⟩, form2 rdVector rdVector .u16x8LessThan),
  (⟨.u32x4, .lessThan⟩, form2 rdVector rdVector .u32x4LessThan),
  (⟨.u64x2, .lessThan⟩, form2 rdVector rdVector .u64x2LessThan),
  (⟨.f32x4, .lessThan⟩, form2 rdVector rdVector .f32x4LessThan),
  (⟨.f64x2, .lessThan⟩, form2 rdVector rdVector .f64x2LessThan),
  (⟨.s8x16, .lessThanOrEqual⟩, form2 rdVector rdVector .s8x16LessThanOrEqual),
  (⟨.s16x8, .lessThanOrEqual⟩, form2 rdVector rdVector .s16x8LessThanOrEqual),
  (⟨.s32x4, .lessThanOrEqual⟩, form2 rdVector rdVector .s32x4LessThanOrEqual),
  (⟨.s64x2, .lessThanOrEqual⟩, form2 rdVector rdVector .s64x2LessThanOrEqual),
  (⟨.u8x16, .lessThanOrEqual⟩, form2 rdVector rdVector .u8x16LessThanOrEqual),
  (⟨.u16x8, .lessThanOrEqual⟩, form2 rdVector rdVector .u16x8LessThanOrEqual),
  (⟨.u32x4, .lessThanOrEqual⟩, form2 rdVector rdVector .u32x4LessThanOrEqual),
  (⟨.u64x2, .lessThanOrEqual⟩, form2 rdVector rdVector .u64x2LessThanOrEqual),
  (⟨.f32x4, .lessThanOrEqual⟩, form2 rdVector rdVector .f32x4LessThanOrEqual),
  (⟨.f64x2, .lessThanOrEqual⟩, form2 rdVector rdVector .f64x2LessThanOrEqual),
  (⟨.s8x16, .greaterThan⟩, form2 rdVector rdVector .s8x16GreaterThan),
  (⟨.s16x8, .greaterThan⟩, form2 rdVector rdVector .s16x8GreaterThan),
  (⟨.s32x4, .greaterThan⟩, form2 rdVector rdVector .s32x4GreaterThan),
  (⟨.s64x2, .greaterThan⟩, form2 rdVector rdVector .s64x2GreaterThan),
  (⟨.u8x16, .greaterThan⟩, form2 rdVector rdVector .u8x16GreaterThan),
  (⟨.u16x8, .greaterThan⟩, form2 rdVector rdVector .u16x8GreaterThan),
  (⟨.u32x4, .greaterThan⟩, form2 rdVector rdVector .u32x4GreaterThan),
  (⟨.u64x2, .greaterThan⟩, form2 rdVector rdVector .u64x2GreaterThan),
  (⟨.f32x4, .greaterThan⟩, form2 rdVector rdVector .f32x4GreaterThan),
  (⟨.f64x2, .greaterThan⟩, form2 rdVector rdVector .f64x2GreaterThan),
  (⟨.s8x16, .greaterThanOrEqual⟩, form2 rdVector rdVector .s8x16GreaterThanOrEqual),
  (⟨.s16x8, .greaterThanOrEqual⟩, form2 rdVector rdVector .s16x8GreaterThanOrEqual),
  (⟨.s32x4, .greaterThanOrEqual⟩, form2 rdVector rdVector .s32x4GreaterThanOrEqual),
  (⟨.s64x2, .greaterThanOrEqual⟩, form2 rdVector rdVector .s64x2GreaterThanOrEqual),
  (⟨.u8x16, .greaterThanOrEqual⟩, form2 rdVector rdVector .u8x16GreaterThanOrEqual),
  (⟨.u16x8, .greaterThanOrEqual⟩, form2 rdVector rdVector .u16x8GreaterThanOrEqual),
  (⟨.u32x4, .greaterThanOrEqual⟩, form2 rdVector rdVector .u32x4GreaterThanOrEqual),
  (⟨.u64x2, .greaterThanOrEqual⟩, form2 rdVector rdVector .u64x2GreaterThanOrEqual),
  (⟨.f32x4, .greaterThanOrEqual⟩, form2 rdVector rdVector .f32x4GreaterThanOrEqual),
  (⟨.f64x2, .greaterThanOrEqual⟩, form2 rdVector rdVector .f64x2GreaterThanOrEqual)]

/-- The rows of loads and stores (R435 to R448). -/
def rowsMemory : List (Mnemonic × Row) := [
  (⟨.v8x16, .load⟩, form2 rdName rdOffset .v8x16Load),
  (⟨.v16x8, .load⟩, form2 rdName rdOffset .v16x8Load),
  (⟨.v32x4, .load⟩, form2 rdName rdOffset .v32x4Load),
  (⟨.v64x2, .load⟩, form2 rdName rdOffset .v64x2Load),
  (⟨.v8x16, .store⟩, formStore .v8x16Store),
  (⟨.v16x8, .store⟩, formStore .v16x8Store),
  (⟨.v32x4, .store⟩, formStore .v32x4Store),
  (⟨.v64x2, .store⟩, formStore .v64x2Store),
  (⟨.v32x4, .load1⟩, form2 rdName rdOffset .v32x4Load1),
  (⟨.v32x4, .load2⟩, form2 rdName rdOffset .v32x4Load2),
  (⟨.v32x4, .load3⟩, form2 rdName rdOffset .v32x4Load3),
  (⟨.v32x4, .store1⟩, formStore .v32x4Store1),
  (⟨.v32x4, .store2⟩, formStore .v32x4Store2),
  (⟨.v32x4, .store3⟩, formStore .v32x4Store3)]

/-- The rows of floating-point sign and extrema (R470 to R481). -/
def rowsSign : List (Mnemonic × Row) := [
  (⟨.f32x4, .neg⟩, form1 rdVector .f32x4Neg),
  (⟨.f64x2, .neg⟩, form1 rdVector .f64x2Neg),
  (⟨.f32x4, .abs⟩, form1 rdVector .f32x4Abs),
  (⟨.f64x2, .abs⟩, form1 rdVector .f64x2Abs),
  (⟨.f32x4, .min⟩, form2 rdVector rdVector .f32x4Min),
  (⟨.f64x2, .min⟩, form2 rdVector rdVector .f64x2Min),
  (⟨.f32x4, .max⟩, form2 rdVector rdVector .f32x4Max),
  (⟨.f64x2, .max⟩, form2 rdVector rdVector .f64x2Max),
  (⟨.f32x4, .minNum⟩, form2 rdVector rdVector .f32x4MinNum),
  (⟨.f64x2, .minNum⟩, form2 rdVector rdVector .f64x2MinNum),
  (⟨.f32x4, .maxNum⟩, form2 rdVector rdVector .f32x4MaxNum),
  (⟨.f64x2, .maxNum⟩, form2 rdVector rdVector .f64x2MaxNum)]

/-- The rows of floating-point arithmetic (R510 to R523). -/
def rowsFloat : List (Mnemonic × Row) := [
  (⟨.f32x4, .add⟩, form3 rdVector rdVector rdRounding .f32x4Add),
  (⟨.f64x2, .add⟩, form3 rdVector rdVector rdRounding .f64x2Add),
  (⟨.f32x4, .sub⟩, form3 rdVector rdVector rdRounding .f32x4Sub),
  (⟨.f64x2, .sub⟩, form3 rdVector rdVector rdRounding .f64x2Sub),
  (⟨.f32x4, .div⟩, form3 rdVector rdVector rdRounding .f32x4Div),
  (⟨.f64x2, .div⟩, form3 rdVector rdVector rdRounding .f64x2Div),
  (⟨.f32x4, .mul⟩, form3 rdVector rdVector rdRounding .f32x4Mul),
  (⟨.f64x2, .mul⟩, form3 rdVector rdVector rdRounding .f64x2Mul),
  (⟨.f32x4, .sqrt⟩, form2 rdVector rdRounding .f32x4Sqrt),
  (⟨.f64x2, .sqrt⟩, form2 rdVector rdRounding .f64x2Sqrt),
  (⟨.f32x4, .reciprocalApproximation⟩, form1 rdVector .f32x4ReciprocalApproximation),
  (⟨.f64x2, .reciprocalApproximation⟩, form1 rdVector .f64x2ReciprocalApproximation),
  (⟨.f32x4, .reciprocalSqrtApproximation⟩, form1 rdVector .f32x4ReciprocalSqrtApproximation),
  (⟨.f64x2, .reciprocalSqrtApproximation⟩, form1 rdVector .f64x2ReciprocalSqrtApproximation)]

/-- The rows of conversions (R553 to R560). -/
def rowsConvert : List (Mnemonic × Row) := [
  (⟨.f32x4, .fromSignedInt⟩, form2 rdVector rdRounding .f32x4FromSignedInt),
  (⟨.f64x2, .fromSignedInt⟩, form2 rdVector rdRounding .f64x2FromSignedInt),
  (⟨.f32x4, .fromUnsignedInt⟩, form2 rdVector rdRounding .f32x4FromUnsignedInt),
  (⟨.f64x2, .fromUnsignedInt⟩, form2 rdVector rdRounding .f64x2FromUnsignedInt),
  (⟨.s32x4, .fromFloat⟩, formConvert .s32x4FromFloat),
  (⟨.s64x2, .fromFloat⟩, formConvert .s64x2FromFloat),
  (⟨.u32x4, .fromFloat⟩, formConvert .u32x4FromFloat),
  (⟨.u64x2, .fromFloat⟩, formConvert .u64x2FromFloat)]

/-- The 216 rows. -/
def rows : List (Mnemonic × Row) :=
  rowsConstruct ++ rowsAccess ++ rowsArith ++ rowsLogic ++ rowsCompare ++ rowsMemory ++ rowsSign ++ rowsFloat ++ rowsConvert

/-- The prefix of a spelling. -/
def readPrefix (w : Text) : Option Prefix := Prefix.all.find? fun p => p.text == w

/-- The operation name of a spelling. -/
def readOp (w : Text) : Option OpName := OpName.all.find? fun o => o.text == w

/-- A word as a mnemonic, split at its first dot, selected exactly and case-sensitively (R100, R101). -/
def readMnemonic (w : Text) : Option Mnemonic :=
  match readPrefix (w.takeWhile (· != '.')), readOp ((w.dropWhile (· != '.')).drop 1) with
  | some p, some o => some ⟨p, o⟩
  | _, _ => none

/-- The row of a mnemonic; a pair with no row spells no instruction (R112). -/
def findRow (m : Mnemonic) : List (Mnemonic × Row) → Option Row
  | [] => none
  | (k, row) :: r => if k = m then some row else findRow m r

/-- A statement as written turned into an instruction. -/
def assemble (st : RawStatement) : Except Check Instr :=
  if !(st.dests.all Ident.valid) then .error .statementForm
  else
    match (readMnemonic st.mnemonic).bind fun m => findRow m rows with
    | none => .error .knownMnemonic
    | some row => row st.dests st.args

/-- THE DECODER: the instruction a statement text is, or the first check that it fails, in the order of R108. It is total on
any text. -/
def decode (t : Text) : Except Check Instr :=
  match (lex t).bind parseStatement with
  | some st => assemble st
  | none => .error .statementForm

/-! ### The encoder -/

/-- The character of a digit below 16. -/
def digitChar (n : Nat) : Char := if n < 10 then Char.ofNat (48 + n) else Char.ofNat (87 + n)

/-- The last `k` hexadecimal digits of a number. -/
def hexDigits : Nat → Nat → Text
  | 0, _ => []
  | k + 1, n => hexDigits k (n / 16) ++ [digitChar (n % 16)]

/-- A number as `0x` and its hexadecimal digits. -/
def hexNumeral (n : Nat) : Text := '0' :: 'x' :: hexDigits (Nat.log2 n / 4 + 1) n

/-- A pattern as `0x` and `W / 4` digits. -/
def hexPattern {W : Nat} (p : BitVec W) : Text := '0' :: 'x' :: hexDigits (W / 4) p.toNat

/-- A number below 100 in decimal. -/
def decimal (n : Nat) : Text := if n < 10 then [digitChar n] else [digitChar (n / 10), digitChar (n % 10)]

/-- A `v128` literal as written. -/
def V128Lit.raw : V128Lit → RawArg
  | .w8 ps => .list (ps.toList.map fun p => .word (hexPattern p)) (some ['_', '8'])
  | .w16 ps => .list (ps.toList.map fun p => .word (hexPattern p)) (some ['_', '1', '6'])
  | .w32 ps => .list (ps.toList.map fun p => .word (hexPattern p)) (some ['_', '3', '2'])
  | .w64 ps => .list (ps.toList.map fun p => .word (hexPattern p)) (some ['_', '6', '4'])

/-- A boolean in a list. -/
def tfWord (b : Bool) : Text := if b then ['t'] else ['f']

/-- A scalar as written. -/
def scalarElem {W : Nat} (τ : Ty) : Operand (BitVec W) → Elem
  | .slot x => .word x
  | .lit p => .typed (hexPattern p) τ.name

/-- An element of a boolean array as written. -/
def booleanElem : Operand Bool → Elem
  | .slot x => .word x
  | .lit b => .word (tfWord b)

/-- An operand as written. -/
def Arg.raw : Arg → RawArg
  | .vector (.slot x) => .elem (.word x)
  | .vector (.lit l) => l.raw
  | .mask _ (.slot x) => .elem (.word x)
  | .mask _ (.lit v) => .list (v.toList.map fun b => .word (tfWord b)) none
  | .scalar τ o => .elem (scalarElem τ o)
  | .boolean (.slot x) => .elem (.word x)
  | .boolean (.lit b) => .elem (.word (if b then ['t', 'r', 'u', 'e'] else ['f', 'a', 'l', 's', 'e']))
  | .scalars τ os => .list (os.map (scalarElem τ)) none
  | .booleans os => .list (os.map booleanElem) none
  | .index i => .elem (.word (decimal i))
  | .indices is => .list (is.map fun i => .word (decimal i)) none
  | .rounding rm => .elem (.word rm.name)
  | .buffer m => .elem (.word m)
  | .offset a => .elem (.word (hexNumeral a))

/-- A statement as written. -/
def Statement.raw (st : Statement) : RawStatement :=
  ⟨st.dests.map Prod.fst, st.mnemonic.text, st.args.map Arg.raw⟩

/-- The tokens of an element. -/
def Elem.tokens : Elem → List Token
  | .word w => [.word w]
  | .typed p τ => [.word p, .colon, .word τ]

/-- Pieces joined by commas. -/
def commas : List (List Token) → List Token
  | [] => []
  | [x] => x
  | x :: y :: r => x ++ .comma :: commas (y :: r)

/-- The tokens of an operand. -/
def RawArg.tokens : RawArg → List Token
  | .elem e => e.tokens
  | .list es sfx => .lbr :: commas (es.map Elem.tokens) ++ .rbr :: (match sfx with | some w => [.word w] | none => [])

/-- The tokens of the destinations. -/
def destTokens : List Ident → List Token
  | [] => []
  | [d] => [.word d, .eq]
  | d :: e :: r => .lpar :: commas ((d :: e :: r).map fun x => [.word x]) ++ [.rpar, .eq]

/-- The tokens of a statement. -/
def RawStatement.tokens (st : RawStatement) : List Token :=
  destTokens st.dests ++ .word st.mnemonic :: .lpar :: commas (st.args.map RawArg.tokens) ++ [.rpar]

/-- The text of a token, with a space after a comma and on both sides of an equals sign. -/
def Token.text : Token → Text
  | .word w => w
  | .lpar => ['(']
  | .rpar => [')']
  | .lbr => ['[']
  | .rbr => [']']
  | .comma => [',', ' ']
  | .eq => [' ', '=', ' ']
  | .colon => [':']

/-- THE ENCODER: the text of an instruction. -/
def encode (i : Instr) : Text := i.statement.raw.tokens.flatMap Token.text

/-! ### Text as bits -/

/-- The characters of the low `k` bytes of a number, the lowest byte first; a character is its ASCII code. -/
def textOfNat : Nat → Nat → Text
  | 0, _ => []
  | k + 1, w => Char.ofNat (w % 256) :: textOfNat k (w / 256)

/-- Text without the NUL characters at its end. -/
def dropNuls (t : Text) : Text := (t.reverse.dropWhile (· == Char.ofNat 0)).reverse

/-- The statement text whose characters are the bytes of `w`, the byte at bit 0 first: there is no binary encoding (R100), so
the bits of a statement are those of its text (DESIGN CHOICE, log entry 1). -/
def statementText (nbits w : Nat) : Text := dropNuls (textOfNat (nbits / 8) w)

/-- The instruction the decoder reads from the text whose characters are the bytes of `w`. -/
def decodeTableWord (nbits w : Nat) : Option Instr :=
  match decode (statementText nbits w) with
  | .ok i => some i
  | .error _ => none

end Sys2Proof
end

