-- ==== Sys2Proof/Machine/Program.lean ====
section
/-! DEFINITION. A program and the checks made on it before a run (30_encoding.md R108, 60_exceptions.md R605). A program is a
list of statement texts; the first statement that fails a check refuses the whole program. -/

namespace Sys2Proof.Machine

/-- The types of slots known at a point of the straight-line program: those that earlier statements gave them. -/
abbrev Types := List (Ident × Ty)

/-- The type a slot has, `none` when no earlier statement gave it one. -/
def Types.find (x : Ident) : Types → Option Ty
  | [] => none
  | (y, τ) :: r => if y = x then some τ else Types.find x r

/-- A slot that has no type yet, or has this one. A slot with no type is unwritten; reading it is no failure of the check but
raises `UnwrittenSlot` when the statement runs (60_exceptions.md R604, log entry 3). -/
def Types.allows (ts : Types) (e : Ident × Ty) : Bool :=
  match ts.find e.1 with
  | none => true
  | some τ => τ == e.2

/-- The types known after a statement: its destinations have theirs (10_state.md R46). -/
def Types.after (ts : Types) (st : Statement) : Types := st.dests ++ ts

/-- What the checks need of the launch: the names of its Buffers and `OFFSET_BITS`. -/
structure Launch where
  buffers : List Ident
  offsetBits : Nat
deriving DecidableEq, Repr

/-- The launch of a state. Neither part ever changes (70_reset_and_hazards.md R642). -/
def State.launch (s : State) : Launch := ⟨s.mem.map Prod.fst, s.params.offsetBits⟩

/-- The checks of R108 that depend on the program and the launch, in the order of R108; `none` when all pass. -/
def statementCheck (l : Launch) (ts : Types) (st : Statement) : Option Check :=
  if !(st.reads.all ts.allows) then some .operandTypes
  else if !(match st.offset? with | some a => decide (a < 2 ^ l.offsetBits) | none => true) then some .operandTypes
  else if !(st.dests.all ts.allows) then some .destinationTypes
  else if !(match st.buffer? with | some m => l.buffers.contains m | none => true) then some .bufferKnown
  else if !(distinctNames (st.dests.map Prod.fst)) then some .distinctDestinations
  else none

/-- The instructions of a program, or the check that its first ill-formed statement fails. -/
def loadFrom (l : Launch) : Types → List Text → Except Check (List Instr)
  | _, [] => .ok []
  | ts, t :: r =>
    match decode t with
    | .error c => .error c
    | .ok i =>
      match statementCheck l ts i.statement with
      | some c => .error c
      | none =>
        match loadFrom l (ts.after i.statement) r with
        | .error c => .error c
        | .ok is => .ok (i :: is)

/-- The program of a state, checked (R605). -/
def State.instrs (s : State) : Except Check (List Instr) := loadFrom s.launch [] s.program

/-- The Buffer of a name added to a launch at its place in the order of names; a name the launch has keeps its Buffer. -/
def Memory.insert (m : Ident) (b : Buffer) : List (Ident × Buffer) → List (Ident × Buffer)
  | [] => [(m, b)]
  | (y, c) :: r =>
    if y = m then (y, c) :: r
    else if m.before y then (m, b) :: (y, c) :: r
    else (y, c) :: Memory.insert m b r

/-- The launch Buffers with one more when the decoded statement names a Buffer that is not among them: as long as the
ByteOffset type reaches, every byte 0x00 (log entry 12). -/
def provideBuffer (offsetBits : Nat) (i : Option Instr) (mem : List (Ident × Buffer)) : List (Ident × Buffer) :=
  match i.bind fun j => j.statement.buffer? with
  | some m => Memory.insert m ⟨2 ^ offsetBits, []⟩ mem
  | none => mem

end Sys2Proof.Machine
end

