-- ==== Sys2Proof/Machine/Step.lean ====
section
/-! DEFINITION. One step of the container machine (30_encoding.md R109), and where a test puts an instruction. -/

namespace Sys2Proof.Machine

/-- One step. A faulted state takes none (10_state.md R54): the answer is the fault. An ill-formed program has none
(60_exceptions.md R605). A final state has none (R109). Otherwise statement `pc` is executed; the meanings themselves end with
`pc + 1` or raise. -/
def step (s : State) : Host.Outcome State Fault Refusal :=
  match s.fault with
  | some f => .fault f
  | none =>
    match s.instrs with
    | .error c => .refused (.illFormed c)
    | .ok is =>
      match is[s.pc]? with
      | some i => exec i s
      | none => .refused .runOver

/-- The state whose next statement is the text that the bits of `w` spell: that text is the whole program, `pc` is 0, no
fault is set, and a Buffer the statement names exists (log entries 2 and 12). It stands for the launch of a run. -/
def State.withFetchWord (s : State) (nbits w : Nat) : State :=
  { s with
    program := [statementText nbits w]
    pc := 0
    fault := none
    mem := provideBuffer s.params.offsetBits (decodeTableWord nbits w) s.mem }

end Sys2Proof.Machine
end

