-- ==== Sys2Proof/Safety.lean ====
section
/-! DEFINITION. The terms the statements are written in: what an operand holds, what a step leaves unchanged, when an instruction
completes, the types of slots along a run, and what it is to round a real number correctly. Nothing here is used by the
machine. -/

namespace Sys2Proof.Machine

/-! ### Operands and frames -/

/-- The value an operand has in a state: the content of the slot it names, or the value of the literal (30_encoding.md R107). -/
def Holds {lit val : Type} (k : Kind lit val) (s : State) (o : Operand lit) (v : val) : Prop :=
  match o with
  | .slot x => s.slot x = some (k.inj v)
  | .lit l => k.ofLit s.params.laneMapping l = v

/-- The values of an array operand, element by element. -/
def HoldsAll {lit val : Type} {n : Nat} (k : Kind lit val) (s : State) (os : Lanes (Operand lit) n) (vs : Lanes val n) : Prop :=
  ∀ i : Fin n, Holds k s (os.at i) (vs.at i)

/-- What every instruction leaves as it was: the launch (program, parameters, the Buffers with their lengths), no fault, and
`pc` one further (10_state.md R48, 70_reset_and_hazards.md R642). -/
structure Retired (s t : State) : Prop where
  pc : t.pc = s.pc + 1
  fault : t.fault = s.fault
  program : t.program = s.program
  params : t.params = s.params
  lengths : ∀ m, (t.buffer m).map Buffer.len = (s.buffer m).map Buffer.len

/-- The frame of an instruction that writes slots and no memory: the destinations hold the results, every other slot and every
byte of every Buffer is as before, and `n` free values were drawn (`draws` is the model's own counter, log entry 5). -/
structure Wrote (s t : State) (ds : List (Ident × Value)) (n : Nat) : Prop where
  dest : ∀ e ∈ ds, t.slot e.1 = some e.2
  others : ∀ x, x ∉ ds.map Prod.fst → t.slot x = s.slot x
  bytes : ∀ m a, t.byte m a = s.byte m a
  draws : t.draws = s.draws + n
  rest : Retired s t

/-- The frame of a store of `n` bytes at `addr` of Buffer `mem`: no slot changes, no free value is drawn, and every byte
outside those `n` is as before. -/
structure Stored (s t : State) (mem : Ident) (addr n : Nat) : Prop where
  slots : ∀ x, t.slot x = s.slot x
  others : ∀ m a, ¬ (m = mem ∧ addr ≤ a ∧ a < addr + n) → t.byte m a = s.byte m a
  draws : t.draws = s.draws
  rest : Retired s t

/-- The instruction runs: the answer is a NEXT state in which slot `d` holds a result of the kind `k` with the property `P`,
inside the frame `Wrote`. -/
def Completes {lit val : Type} (k : Kind lit val) (o : Out) (s : State) (d : Ident) (n : Nat) (P : val → Prop) : Prop :=
  ∃ t v, o = .next t ∧ Wrote s t [(d, k.inj v)] n ∧ P v

/-! ### Statement shapes (30_encoding.md R103): for every state in which the operands have values and the destination may take
the result, the instruction completes, and its lanes stand in the relation given -/

/-- `UN`, `UN_RM`: every lane of the result is related to the lane of the operand. -/
def UnaryLanes (W L n : Nat) (mk : Ident → VOperand → Instr) (R : Params → BitVec W → BitVec W → Prop) : Prop :=
  ∀ s d a va, Holds kV128 s a va → s.accepts d .v128 = true →
    Completes kV128 (exec (mk d a) s) s d n fun v => ∀ i < L,
      R s.params (lane s.params.laneMapping W va i) (lane s.params.laneMapping W v i)

/-- `BIN`, `BIN_RM`: every lane of the result is related to the lanes of the two operands. -/
def BinaryLanes (W L n : Nat) (mk : Ident → VOperand → VOperand → Instr)
    (R : Params → BitVec W → BitVec W → BitVec W → Prop) : Prop :=
  ∀ s d a b va vb, Holds kV128 s a va → Holds kV128 s b vb → s.accepts d .v128 = true →
    Completes kV128 (exec (mk d a b) s) s d n fun v => ∀ i < L,
      R s.params (lane s.params.laneMapping W va i) (lane s.params.laneMapping W vb i) (lane s.params.laneMapping W v i)

/-- `SHIFT`: every lane of the result is related to the lane of the operand and the `i8` operand. -/
def ShiftLanes (W L : Nat) (mk : Ident → VOperand → Operand (BitVec 8) → Instr)
    (R : BitVec W → BitVec 8 → BitVec W → Prop) : Prop :=
  ∀ s d a y va vy, Holds kV128 s a va → Holds kI8 s y vy → s.accepts d .v128 = true →
    Completes kV128 (exec (mk d a y) s) s d 0 fun v => ∀ i < L,
      R (lane s.params.laneMapping W va i) vy (lane s.params.laneMapping W v i)

/-- `CMP`: every boolean lane of the result is true exactly when the two lanes are related. -/
def CompareLanes (W : Nat) {L : Nat} (k : Kind (Lanes Bool L) (Lanes Bool L)) (mk : Ident → VOperand → VOperand → Instr)
    (R : BitVec W → BitVec W → Prop) : Prop :=
  ∀ s d a b va vb, Holds kV128 s a va → Holds kV128 s b vb → s.accepts d k.ty = true →
    Completes k (exec (mk d a b) s) s d 0 fun v => ∀ i : Fin L,
      (v.at i = true ↔ R (lane s.params.laneMapping W va i.val) (lane s.params.laneMapping W vb i.val))

/-- `BBIN`: every boolean lane of the result is `f` of the two lanes. -/
def BooleanBinary {L : Nat} (k : Kind (Lanes Bool L) (Lanes Bool L))
    (mk : Ident → Operand (Lanes Bool L) → Operand (Lanes Bool L) → Instr) (f : Bool → Bool → Bool) : Prop :=
  ∀ s d a b va vb, Holds k s a va → Holds k s b vb → s.accepts d k.ty = true →
    Completes k (exec (mk d a b) s) s d 0 fun v => ∀ i : Fin L, v.at i = f (va.at i) (vb.at i)

/-- `BUN`: every boolean lane of the result is `f` of the lane. -/
def BooleanUnary {L : Nat} (k : Kind (Lanes Bool L) (Lanes Bool L)) (mk : Ident → Operand (Lanes Bool L) → Instr)
    (f : Bool → Bool) : Prop :=
  ∀ s d a va, Holds k s a va → s.accepts d k.ty = true →
    Completes k (exec (mk d a) s) s d 0 fun v => ∀ i : Fin L, v.at i = f (va.at i)

/-- `REDUCE`: the boolean result is true exactly when the lanes have the property. -/
def Reduces {L : Nat} (k : Kind (Lanes Bool L) (Lanes Bool L)) (mk : Ident → Operand (Lanes Bool L) → Instr)
    (P : Lanes Bool L → Prop) : Prop :=
  ∀ s d a va, Holds k s a va → s.accepts d .boolean = true →
    Completes kBool (exec (mk d a) s) s d 0 fun v => (v = true ↔ P va)

/-- `BUILD` of numerical lanes: lane i is element i. -/
def BuildsPatterns {W : Nat} (L : Nat) (k : Kind (BitVec W) (BitVec W))
    (mk : Ident → Lanes (Operand (BitVec W)) L → Instr) : Prop :=
  ∀ s d x vx, HoldsAll k s x vx → s.accepts d .v128 = true →
    Completes kV128 (exec (mk d x) s) s d 0 fun v => ∀ i : Fin L, lane s.params.laneMapping W v i.val = vx.at i

/-- `BUILD` of boolean lanes: lane i is element i. -/
def BuildsBooleans {L : Nat} (k : Kind (Lanes Bool L) (Lanes Bool L)) (mk : Ident → Lanes (Operand Bool) L → Instr) : Prop :=
  ∀ s d x vx, HoldsAll kBool s x vx → s.accepts d k.ty = true →
    Completes k (exec (mk d x) s) s d 0 fun v => ∀ i : Fin L, v.at i = vx.at i

/-- `SPLAT` of numerical lanes: every lane is the operand. -/
def SplatsPattern {W : Nat} (L : Nat) (k : Kind (BitVec W) (BitVec W)) (mk : Ident → Operand (BitVec W) → Instr) : Prop :=
  ∀ s d x vx, Holds k s x vx → s.accepts d .v128 = true →
    Completes kV128 (exec (mk d x) s) s d 0 fun v => ∀ i < L, lane s.params.laneMapping W v i = vx

/-- `SPLAT` of boolean lanes: every lane is the operand. -/
def SplatsBoolean {L : Nat} (k : Kind (Lanes Bool L) (Lanes Bool L)) (mk : Ident → Operand Bool → Instr) : Prop :=
  ∀ s d x vx, Holds kBool s x vx → s.accepts d k.ty = true →
    Completes k (exec (mk d x) s) s d 0 fun v => ∀ i : Fin L, v.at i = vx

/-- `EXTRACT` from numerical lanes: the pattern in the lane. -/
def ExtractsPattern {W L : Nat} (k : Kind (BitVec W) (BitVec W)) (mk : Ident → VOperand → Fin L → Instr) : Prop :=
  ∀ s d a i va, Holds kV128 s a va → s.accepts d k.ty = true →
    Completes k (exec (mk d a i) s) s d 0 fun v => v = lane s.params.laneMapping W va i.val

/-- `EXTRACT` from boolean lanes: the boolean in the lane. -/
def ExtractsBoolean {L : Nat} (k : Kind (Lanes Bool L) (Lanes Bool L))
    (mk : Ident → Operand (Lanes Bool L) → Fin L → Instr) : Prop :=
  ∀ s d a i va, Holds k s a va → s.accepts d .boolean = true →
    Completes kBool (exec (mk d a i) s) s d 0 fun v => v = va.at i

/-- `REPLACE` in numerical lanes: lane i is the scalar, every other lane that of the operand. -/
def ReplacesPattern {W L : Nat} (k : Kind (BitVec W) (BitVec W))
    (mk : Ident → VOperand → Fin L → Operand (BitVec W) → Instr) : Prop :=
  ∀ s d a i x va vx, Holds kV128 s a va → Holds k s x vx → s.accepts d .v128 = true →
    Completes kV128 (exec (mk d a i x) s) s d 0 fun v => ∀ j : Fin L,
      lane s.params.laneMapping W v j.val = if j = i then vx else lane s.params.laneMapping W va j.val

/-- `REPLACE` in boolean lanes. -/
def ReplacesBoolean {L : Nat} (k : Kind (Lanes Bool L) (Lanes Bool L))
    (mk : Ident → Operand (Lanes Bool L) → Fin L → Operand Bool → Instr) : Prop :=
  ∀ s d a i x va vx, Holds k s a va → Holds kBool s x vx → s.accepts d k.ty = true →
    Completes k (exec (mk d a i x) s) s d 0 fun v => ∀ j : Fin L, v.at j = if j = i then vx else va.at j

/-- `SELECT`: whole lanes from the second operand where the selector is true, from the third elsewhere. -/
def SelectsLanes (W : Nat) {L : Nat} (k : Kind (Lanes Bool L) (Lanes Bool L))
    (mk : Ident → Operand (Lanes Bool L) → VOperand → VOperand → Instr) : Prop :=
  ∀ s d c t f vc vt vf, Holds k s c vc → Holds kV128 s t vt → Holds kV128 s f vf → s.accepts d .v128 = true →
    Completes kV128 (exec (mk d c t f) s) s d 0 fun v => ∀ i : Fin L,
      lane s.params.laneMapping W v i.val =
        if vc.at i then lane s.params.laneMapping W vt i.val else lane s.params.laneMapping W vf i.val

/-- `SWIZZLE`: lane i is the lane of the operand that entry i names. -/
def Swizzles (W : Nat) {L : Nat} (mk : Ident → VOperand → Lanes (Fin L) L → Instr) : Prop :=
  ∀ s d a c va, Holds kV128 s a va → s.accepts d .v128 = true →
    Completes kV128 (exec (mk d a c) s) s d 0 fun v => ∀ i : Fin L,
      lane s.params.laneMapping W v i.val = lane s.params.laneMapping W va (c.at i).val

/-- `SHUFFLE`: an entry below `L` names a lane of the first operand, any other a lane of the second. -/
def Shuffles (W L : Nat) {N : Nat} (mk : Ident → VOperand → VOperand → Lanes (Fin N) L → Instr) : Prop :=
  ∀ s d a b c va vb, Holds kV128 s a va → Holds kV128 s b vb → s.accepts d .v128 = true →
    Completes kV128 (exec (mk d a b c) s) s d 0 fun v => ∀ i : Fin L,
      lane s.params.laneMapping W v i.val =
        if (c.at i).val < L then lane s.params.laneMapping W va (c.at i).val
        else lane s.params.laneMapping W vb ((c.at i).val - L)

/-! ### Loads and stores -/

/-- `in_range(mem, addr, n)` for `n` not 0, as 20_memory.md R70 writes it. -/
def Accessible (s : State) (mem : Ident) (addr n : Nat) : Prop :=
  ∃ b, s.buffer mem = some b ∧ addr + n ≤ b.len ∧ addr + n - 1 ≤ 2 ^ s.params.offsetBits - 1

/-- The place of byte `j` of a lane of `m` bytes: its significance in the native byte order (R71). -/
def byteWeight (p : Params) (m j : Nat) : Nat := if p.laneMapping = .leDirect then j else m - 1 - j

/-- `LOAD` of `n` lanes of width `W`: lane i < n is the number its bytes spell in the native byte order, every other lane is
zero. -/
def Loads (W L n : Nat) (mk : Ident → Ident → Nat → Instr) : Prop :=
  ∀ s d mem addr, addr < 2 ^ s.params.offsetBits → Accessible s mem addr (n * (W / 8)) → s.accepts d .v128 = true →
    Completes kV128 (exec (mk d mem addr) s) s d 0 fun v => ∀ i < L,
      (lane s.params.laneMapping W v i).toNat =
        if i < n then
          (Finset.range (W / 8)).sum fun j =>
            ((s.byte mem (addr + i * (W / 8) + j)).getD 0).toNat * 2 ^ (8 * byteWeight s.params (W / 8) j)
        else 0

/-- `STORE` of the first `n` lanes of width `W`: it completes inside the frame `Stored`, and byte `j` of lane i < n is the byte
of the lane pattern that the native byte order puts there. The premise `s.wf` is the canonical form of memory, which every step
keeps. -/
def Stores (W n : Nat) (mk : Ident → Nat → VOperand → Instr) : Prop :=
  ∀ s mem addr data v, s.wf = true → addr < 2 ^ s.params.offsetBits → Accessible s mem addr (n * (W / 8)) →
    Holds kV128 s data v → ∃ t, exec (mk mem addr data) s = .next t ∧ Stored s t mem addr (n * (W / 8)) ∧
      ∀ i < n, ∀ j < W / 8, t.byte mem (addr + i * (W / 8) + j) =
        some ((lane s.params.laneMapping W v i).extractLsb' (8 * byteWeight s.params (W / 8) j) 8)

/-- A load of `n` bytes out of range raises `BufferRange` (60_exceptions.md R603). -/
def LoadRaises (n : Nat) (mk : Ident → Ident → Nat → Instr) : Prop :=
  ∀ s d mem addr, addr < 2 ^ s.params.offsetBits → (s.buffer mem).isSome = true → ¬ Accessible s mem addr n →
    s.accepts d .v128 = true → exec (mk d mem addr) s = .next (s.raise (.bufferRange mem addr n))

/-- A store of `n` bytes out of range raises `BufferRange` (R603). -/
def StoreRaises (n : Nat) (mk : Ident → Nat → VOperand → Instr) : Prop :=
  ∀ s mem addr data v, addr < 2 ^ s.params.offsetBits → (s.buffer mem).isSome = true → ¬ Accessible s mem addr n →
    Holds kV128 s data v → exec (mk mem addr data) s = .next (s.raise (.bufferRange mem addr n))

/-- The byte count R603 gives a load or store, by its operation name: 16 for the full forms, 4, 8 or 12 for the partial ones. -/
def accessBytes (st : Statement) : Option Nat :=
  if st.mnemonic.op = .load ∨ st.mnemonic.op = .store then some 16
  else if st.mnemonic.op = .load1 ∨ st.mnemonic.op = .store1 then some 4
  else if st.mnemonic.op = .load2 ∨ st.mnemonic.op = .store2 then some 8
  else if st.mnemonic.op = .load3 ∨ st.mnemonic.op = .store3 then some 12
  else none

/-- The statement accesses `n` bytes at `a` of Buffer `m` (60_exceptions.md R603). -/
def Accesses (st : Statement) (m : Ident) (a n : Nat) : Prop :=
  st.buffer? = some m ∧ st.offset? = some a ∧ accessBytes st = some n

/-- All that R613 lets a fault depend on in a state: which slots are written and with what types, which Buffers there are and
how long they are, and `OFFSET_BITS`. -/
structure SameShape (s t : State) : Prop where
  types : ∀ x, (s.slot x).map Value.ty = (t.slot x).map Value.ty
  lengths : ∀ m, (s.buffer m).map Buffer.len = (t.buffer m).map Buffer.len
  offsetBits : s.params.offsetBits = t.params.offsetBits

/-! ### Types along a run -/

/-- The types of slots before statement `k` of a program: each destination of an earlier statement has the type of its result
(10_state.md R46). -/
def typesAt (is : List Instr) (k : Nat) : Types := (is.take k).foldl (fun ts i => ts.after i.statement) []

/-- A state of a run of a well-formed program: `pc` is within the program, and every written slot has the type that the
program gives it before that statement. It says nothing of which slots are written. -/
def State.typed (s : State) : Prop :=
  ∃ is, s.instrs = .ok is ∧ s.pc ≤ is.length ∧ ∀ x v, s.slot x = some v → (typesAt is s.pc).find x = some v.ty

/-- The operands of a statement that are read and not written yet, in signature order. -/
def unwrittenReads (st : Statement) (s : State) : List Ident :=
  (st.reads.map Prod.fst).filter fun x => (s.slot x).isNone

/-- Every check of 30_encoding.md R108 holds of a statement in a state: the slots read are unwritten or of the type asked for,
the ByteOffset is of its type, the destinations may take the results and are distinct, the Buffer exists. -/
structure StatementFits (st : Statement) (s : State) : Prop where
  reads : ∀ e ∈ st.reads, s.accepts e.1 e.2 = true
  offset : ∀ a, st.offset? = some a → a < 2 ^ s.params.offsetBits
  dests : ∀ e ∈ st.dests, s.accepts e.1 e.2 = true
  buffer : ∀ m, st.buffer? = some m → (s.buffer m).isSome = true
  distinct : distinctNames (st.dests.map Prod.fst) = true

/-! ### Well-formed programs (30_encoding.md R107 to R109), said without the decoder: which operands as written are spellings
of which operands, and which check a statement fails -/

/-- A word list whose words are numerals of the given numbers. -/
def Numerals (ws : List Text) (ns : List Nat) : Prop := ws.map readNumeral = ns.map some

/-- A word for a boolean in a list: the letter or the whole word (log entry 1). -/
def SpellsBool (b : Bool) (w : Text) : Prop :=
  w = (if b then ['t'] else ['f']) ∨ w = (if b then ['t', 'r', 'u', 'e'] else ['f', 'a', 'l', 's', 'e'])

/-- An element that spells a scalar of type `τ`: a slot name, or a numeral of the pattern with its type or without it (R107,
log entry 1). -/
def SpellsScalar {w : Nat} (τ : Ty) (o : Operand (BitVec w)) (e : Elem) : Prop :=
  match o with
  | .slot x => e = .word x ∧ x.valid = true
  | .lit p => ∃ t, readNumeral t = some p.toNat ∧ (e = .typed t τ.name ∨ e = .word t)

/-- An element that spells a boolean of a boolean array: a slot name that is neither `t` nor `f`, or a literal. -/
def SpellsBooleanElem (o : Operand Bool) (e : Elem) : Prop :=
  match o with
  | .slot x => e = .word x ∧ x.validElement = true
  | .lit b => ∃ w, e = .word w ∧ SpellsBool b w

/-- A list of untyped words with a suffix spells a lane list. -/
def SpellsLanes {W n : Nat} (ps : Lanes (BitVec W) n) (sfx : Text) (r : RawArg) : Prop :=
  ∃ ws : List Text, r = .list (ws.map .word) (some sfx) ∧ Numerals ws (ps.toList.map BitVec.toNat)

/-- An operand as written is a spelling of an operand of the signature (R104, R107). That the operand is of its type (a pattern
fits its width, an array has its length, an index is below its bound) is in the types of the instruction it belongs to. -/
def SpellsArg : Arg → RawArg → Prop
  | .vector (.slot x), r => r = .elem (.word x) ∧ x.valid = true
  | .vector (.lit (.w8 ps)), r => SpellsLanes ps ['_', '8'] r
  | .vector (.lit (.w16 ps)), r => SpellsLanes ps ['_', '1', '6'] r
  | .vector (.lit (.w32 ps)), r => SpellsLanes ps ['_', '3', '2'] r
  | .vector (.lit (.w64 ps)), r => SpellsLanes ps ['_', '6', '4'] r
  | .mask _ (.slot x), r => r = .elem (.word x) ∧ x.valid = true
  | .mask _ (.lit v), r => ∃ ws : List Text, r = .list (ws.map .word) none ∧ List.Forall₂ SpellsBool v.toList ws
  | .scalar τ o, r => ∃ e, r = .elem e ∧ SpellsScalar τ o e
  | .boolean (.slot x), r => r = .elem (.word x) ∧ x.valid = true
  | .boolean (.lit b), r => r = .elem (.word (if b then ['t', 'r', 'u', 'e'] else ['f', 'a', 'l', 's', 'e']))
  | .scalars τ os, r => ∃ es, r = .list es none ∧ List.Forall₂ (SpellsScalar τ) os es
  | .booleans os, r => ∃ es, r = .list es none ∧ List.Forall₂ SpellsBooleanElem os es
  | .index i, r => ∃ w, r = .elem (.word w) ∧ readDecimal w = some i
  | .indices is, r => ∃ ws : List Text, r = .list (ws.map .word) none ∧ ws.map readDecimal = is.map some
  | .rounding rm, r => r = .elem (.word rm.name)
  | .buffer m, r => r = .elem (.word m) ∧ m.valid = true
  | .offset a, r => ∃ w, r = .elem (.word w) ∧ readNumeral w = some a

/-- The text has one of the three forms of a statement (R109), with identifiers for destinations. -/
def Written (t : Text) (st : RawStatement) : Prop :=
  (lex t).bind parseStatement = some st ∧ st.dests.all Ident.valid = true

/-- The mnemonic of the instruction stands in the statement. -/
def Names (st : RawStatement) (i : Instr) : Prop := st.mnemonic = i.statement.mnemonic.text

/-- As many destinations and operands as the instruction has. -/
def Counts (st : RawStatement) (i : Instr) : Prop :=
  st.dests.length = i.statement.dests.length ∧ st.args.length = i.statement.args.length

/-- The operands as written spell those of the instruction, one by one. -/
def SpellsAll (st : RawStatement) (i : Instr) : Prop :=
  Names st i ∧ Counts st i ∧ List.Forall₂ SpellsArg i.statement.args st.args

/-- The text is a statement that is the instruction. -/
def Denotes (t : Text) (i : Instr) : Prop :=
  ∃ st, Written t st ∧ SpellsAll st i ∧ st.dests = i.statement.dests.map Prod.fst ∧ st.dests.Nodup

/-- The part of `operand_types` that depends on the program: the slots read have no other type at that point, and the ByteOffset
is of its type (R108, log entries 3, 9). -/
def ReadsFit (l : Launch) (ts : Types) (st : Statement) : Prop :=
  (∀ e ∈ st.reads, ∀ τ, ts.find e.1 = some τ → τ = e.2) ∧ ∀ a, st.offset? = some a → a < 2 ^ l.offsetBits

/-- `destination_types` (R108). -/
def DestsFit (ts : Types) (st : Statement) : Prop := ∀ e ∈ st.dests, ∀ τ, ts.find e.1 = some τ → τ = e.2

/-- `buffer_known` (R108). -/
def BufferFits (l : Launch) (st : Statement) : Prop := ∀ m, st.buffer? = some m → m ∈ l.buffers

/-- A statement text that is the instruction and passes every check of R108 at a point where the slots have the types `ts`. -/
def Passes (l : Launch) (ts : Types) (t : Text) (i : Instr) : Prop :=
  Denotes t i ∧ ReadsFit l ts i.statement ∧ DestsFit ts i.statement ∧ BufferFits l i.statement

/-- The check a statement text fails, the first in the order of log entry 7 (R108, R112, R605). -/
def Fails (l : Launch) (ts : Types) (t : Text) : Check → Prop
  | .statementForm => ∀ st, ¬ Written t st
  | .knownMnemonic => ∃ st, Written t st ∧ ∀ i, ¬ Names st i
  | .arity => ∃ st i, Written t st ∧ Names st i ∧ ¬ Counts st i
  | .operandTypes =>
    (∃ st i, Written t st ∧ Names st i ∧ Counts st i ∧ ∀ j, ¬ SpellsAll st j) ∨ ∃ i, Denotes t i ∧ ¬ ReadsFit l ts i.statement
  | .distinctDestinations => ∃ st i, Written t st ∧ SpellsAll st i ∧ ¬ st.dests.Nodup
  | .destinationTypes => ∃ i, Denotes t i ∧ ReadsFit l ts i.statement ∧ ¬ DestsFit ts i.statement
  | .bufferKnown => ∃ i, Denotes t i ∧ ReadsFit l ts i.statement ∧ DestsFit ts i.statement ∧ ¬ BufferFits l i.statement

/-- The first `is.length` statements of a program pass, each at the types that those before it give, and are `is`. -/
def PassesAll (l : Launch) (program : List Text) (is : List Instr) : Prop :=
  ∀ k i, is[k]? = some i → ∃ t, program[k]? = some t ∧ Passes l (typesAt is k) t i

/-! ### Floating-point data as real numbers (40_fp_semantics.md R133, R134) -/

section
variable {W : Nat}

/-- A zero, a subnormal or a normal. -/
def Fmt.isfinite (f : Fmt W) (x : BitVec W) : Bool := !(f.isnan x) && !(f.isinf x)

/-- A signaling NaN: the most significant bit of the trailing significand is clear (R133). -/
def Fmt.issignaling (f : Fmt W) (x : BitVec W) : Bool := f.isnan x && !(x.getLsbD (f.fracBits - 1))

/-- The value of a finite datum as R134 writes it: `(-1)^s * t * 2^(emin - T)` for a zero or a subnormal,
`(-1)^s * (2^T + t) * 2^(e - bias - T)` for a normal. -/
def Fmt.rat (f : Fmt W) (x : BitVec W) : ℚ :=
  (if signbit x then -1 else 1) *
    (if f.expField x = 0 then (f.fracField x : ℚ) * 2 ^ (f.emin - f.fracBits)
     else ((2 : ℚ) ^ f.fracBits + f.fracField x) * 2 ^ ((f.expField x : Int) - f.bias - f.fracBits))

/-- `x < y` of R157: both no NaN, and less by value with the infinities at the ends. -/
def Fmt.Less (f : Fmt W) (x y : BitVec W) : Prop :=
  f.isnan x = false ∧ f.isnan y = false ∧
    ((f.isfinite x = true ∧ f.isfinite y = true ∧ f.rat x < f.rat y)
      ∨ (f.isinf x = true ∧ signbit x = true ∧ ¬ (f.isinf y = true ∧ signbit y = true))
      ∨ (f.isinf y = true ∧ signbit y = false ∧ ¬ (f.isinf x = true ∧ signbit x = false)))

/-- `x == y` of R157: both no NaN, and equal by value, the zeros equal to each other. -/
def Fmt.Equal (f : Fmt W) (x y : BitVec W) : Prop :=
  f.isnan x = false ∧ f.isnan y = false ∧
    ((f.isfinite x = true ∧ f.isfinite y = true ∧ f.rat x = f.rat y)
      ∨ (f.isinf x = true ∧ f.isinf y = true ∧ signbit x = signbit y))

/-- Half a unit in the last place above the largest finite number: where `TiesToEven` begins to give an infinity. -/
def Fmt.threshold (f : Fmt W) : ℚ := ((2 : ℚ) ^ (f.fracBits + 2) - 1) * 2 ^ (f.emax - f.fracBits - 1)

/-- `p` is the correctly rounded datum for a non-zero real number `r` (what R135 to R138 come to, said without the algorithm of
R136): its sign is that of `r`, and among all finite data it is the nearest one in the direction of the mode, or for
`TiesToEven` a nearest one, with an even trailing significand when another datum is as near; it is an infinity exactly when
the mode calls for one. -/
def Fmt.Rounds (f : Fmt W) (rm : RoundingMode) (r : ℝ) (p : BitVec W) : Prop :=
  f.isnan p = false ∧ (signbit p = true ↔ r < 0) ∧
  match rm with
  | .towardZero =>
    f.isfinite p = true ∧ |(f.rat p : ℝ)| ≤ |r| ∧
      ∀ q, f.isfinite q = true → |(f.rat q : ℝ)| ≤ |r| → |(f.rat q : ℝ)| ≤ |(f.rat p : ℝ)|
  | .towardPositive =>
    (f.isfinite p = true → r ≤ (f.rat p : ℝ)) ∧
      ∀ q, f.isfinite q = true → r ≤ (f.rat q : ℝ) → f.isfinite p = true ∧ (f.rat p : ℝ) ≤ (f.rat q : ℝ)
  | .towardNegative =>
    (f.isfinite p = true → (f.rat p : ℝ) ≤ r) ∧
      ∀ q, f.isfinite q = true → (f.rat q : ℝ) ≤ r → f.isfinite p = true ∧ (f.rat q : ℝ) ≤ (f.rat p : ℝ)
  | .tiesToEven =>
    (f.isfinite p = true ↔ |r| < (f.threshold : ℝ)) ∧
      (f.isfinite p = true → ∀ q, f.isfinite q = true →
        |(f.rat p : ℝ) - r| ≤ |(f.rat q : ℝ) - r| ∧
        (f.rat q ≠ f.rat p → |(f.rat p : ℝ) - r| = |(f.rat q : ℝ) - r| → f.fracField p % 2 = 0))

/-- One lane of an arithmetic operation of two operands (R144, R149, R150): a NaN operand is propagated quieted, either one
when both are; an invalid case gives a default NaN of either sign; otherwise the operands, flushed when flushing holds, are
related to a datum by `core`, and the result is that datum, flushed when flushing holds. -/
def Fmt.WrappedBinary (f : Fmt W) (p : Params) (invalid : BitVec W → BitVec W → Prop)
    (core : BitVec W → BitVec W → BitVec W → Prop) (x y z : BitVec W) : Prop :=
  if f.isnan x = true ∨ f.isnan y = true then
    (f.isnan x = true ∧ z = f.quiet x) ∨ (f.isnan y = true ∧ z = f.quiet y)
  else
    (invalid (f.flush p.flushSubnormals x) (f.flush p.flushSubnormals y) ∧
      (z = f.pack false f.emask (2 ^ (f.fracBits - 1)) ∨ z = f.pack true f.emask (2 ^ (f.fracBits - 1)))) ∨
    (¬ invalid (f.flush p.flushSubnormals x) (f.flush p.flushSubnormals y) ∧
      ∃ r, core (f.flush p.flushSubnormals x) (f.flush p.flushSubnormals y) r ∧ z = f.flush p.flushSubnormals r)

/-- One lane of an arithmetic operation of one operand (R149). -/
def Fmt.WrappedUnary (f : Fmt W) (p : Params) (invalid : BitVec W → Prop) (core : BitVec W → BitVec W → Prop)
    (x z : BitVec W) : Prop :=
  if f.isnan x = true then z = f.quiet x
  else
    (invalid (f.flush p.flushSubnormals x) ∧
      (z = f.pack false f.emask (2 ^ (f.fracBits - 1)) ∨ z = f.pack true f.emask (2 ^ (f.fracBits - 1)))) ∨
    (¬ invalid (f.flush p.flushSubnormals x) ∧
      ∃ r, core (f.flush p.flushSubnormals x) r ∧ z = f.flush p.flushSubnormals r)

/-- The sum of two data that are no NaNs (R151): an infinity gives itself, a sum that is not zero is rounded, a sum of zero is
the common zero or else `+0`, `-0` under `TowardNegative`. -/
def Fmt.Sum (f : Fmt W) (rm : RoundingMode) (x y r : BitVec W) : Prop :=
  (f.isinf x = true → r = x) ∧ (f.isinf y = true → r = y) ∧
  (f.isfinite x = true → f.isfinite y = true →
    (f.rat x + f.rat y ≠ 0 → f.Rounds rm ((f.rat x + f.rat y : ℚ) : ℝ) r) ∧
    (f.rat x + f.rat y = 0 →
      r = if f.iszero x = true ∧ f.iszero y = true ∧ signbit x = signbit y then x else f.zero (rm == .towardNegative)))

/-- The invalid case of a sum: infinities of opposite signs (R151). -/
def Fmt.SumInvalid (f : Fmt W) (x y : BitVec W) : Prop :=
  f.isinf x = true ∧ f.isinf y = true ∧ signbit x ≠ signbit y

/-- The product of two data that are no NaNs (R153). -/
def Fmt.Product (f : Fmt W) (rm : RoundingMode) (x y r : BitVec W) : Prop :=
  (f.isinf x = true ∨ f.isinf y = true → r = f.inf (signbit x ^^ signbit y)) ∧
  (f.isfinite x = true → f.isfinite y = true →
    (f.rat x * f.rat y ≠ 0 → f.Rounds rm ((f.rat x * f.rat y : ℚ) : ℝ) r) ∧
    (f.rat x * f.rat y = 0 → r = f.zero (signbit x ^^ signbit y)))

/-- The invalid case of a product: a zero times an infinity (R153). -/
def Fmt.ProductInvalid (f : Fmt W) (x y : BitVec W) : Prop :=
  (f.isinf x = true ∧ f.iszero y = true) ∨ (f.iszero x = true ∧ f.isinf y = true)

/-- The quotient of two data that are no NaNs (R154). -/
def Fmt.Quotient (f : Fmt W) (rm : RoundingMode) (x y r : BitVec W) : Prop :=
  (f.isinf x = true → r = f.inf (signbit x ^^ signbit y)) ∧
  (f.isfinite x = true → f.isinf y = true → r = f.zero (signbit x ^^ signbit y)) ∧
  (f.isfinite x = true → f.isfinite y = true →
    (f.iszero y = true → r = f.inf (signbit x ^^ signbit y)) ∧
    (f.iszero x = true → f.iszero y = false → r = f.zero (signbit x ^^ signbit y)) ∧
    (f.iszero x = false → f.iszero y = false → f.Rounds rm ((f.rat x / f.rat y : ℚ) : ℝ) r))

/-- The invalid cases of a quotient: zero by zero, infinity by infinity (R154). -/
def Fmt.QuotientInvalid (f : Fmt W) (x y : BitVec W) : Prop :=
  (f.isinf x = true ∧ f.isinf y = true) ∨ (f.iszero x = true ∧ f.iszero y = true)

/-- The square root of a datum that is no NaN (R155). -/
def Fmt.Root (f : Fmt W) (rm : RoundingMode) (x r : BitVec W) : Prop :=
  (f.iszero x = true → r = x) ∧ (f.isinf x = true → r = x) ∧
  (f.isfinite x = true → f.iszero x = false → f.Rounds rm (Real.sqrt (f.rat x : ℝ)) r)

/-- The invalid case of a square root: any negative operand but `-0` (R155). -/
def Fmt.RootInvalid (f : Fmt W) (x : BitVec W) : Prop := signbit x = true ∧ f.iszero x = false

/-- The value an integer conversion drops the fraction to: the integer nearest to zero among the two around the value (R159). -/
def truncate (q : ℚ) : Int := if 0 ≤ q then ⌊q⌋ else ⌈q⌉

/-- A lane that `fromFloat` converts: finite, its truncated value in the range of the destination (R552). -/
def Fmt.Converts (f : Fmt W) (lo hi : Int) (x : BitVec W) : Prop :=
  f.isfinite x = true ∧ lo ≤ truncate (f.rat x) ∧ truncate (f.rat x) ≤ hi

/-- `CVT_FAIL`: it completes with two results in the frame `Wrote`; `fail` is true exactly when some lane does not convert, and
when every lane converts each result lane, read as `num`, is the truncated value. The result of a failing statement is free. -/
def ConvertsLanes (f : Fmt W) (L : Nat) (lo hi : Int) (num : BitVec W → Int)
    (mk : Ident → Ident → VOperand → Instr) : Prop :=
  ∀ s d1 d2 a va, Holds kV128 s a va → s.accepts d1 .v128 = true → s.accepts d2 .boolean = true → d1 ≠ d2 →
    ∃ t v fail, exec (mk d1 d2 a) s = .next t ∧ Wrote s t [(d1, .v128 v), (d2, .boolean fail)] 1 ∧
      (fail = true ↔ ∃ i < L, ¬ f.Converts lo hi (lane s.params.laneMapping W va i)) ∧
      (fail = false → ∀ i < L,
        num (lane s.params.laneMapping W v i) = truncate (f.rat (lane s.params.laneMapping W va i)))

/-- One lane of an approximation (48_fp_arith.md R506, R507): a NaN gives itself quieted, a zero the infinity of its sign, an
infinity the zero of its sign; nothing is said of any other lane. -/
def Fmt.Approximates (f : Fmt W) (x z : BitVec W) : Prop :=
  (f.isnan x = true → z = f.quiet x) ∧ (f.iszero x = true → z = f.inf (signbit x)) ∧
  (f.isinf x = true → z = f.zero (signbit x))

/-- One lane of `min` (`less` the order), `max` (`less` the converse order) on data that are no NaNs (R464, R465): the result is
one of the operands, and neither operand comes before it; of zeros of opposite sign the result is the zero of sign `s`. -/
def Fmt.Extremum (f : Fmt W) (less : BitVec W → BitVec W → Prop) (s : Bool) (x y z : BitVec W) : Prop :=
  (z = x ∨ z = y) ∧ ¬ less x z ∧ ¬ less y z ∧
  (f.iszero x = true → f.iszero y = true → signbit x ≠ signbit y → z = f.zero s)

/-- One lane of `min` or `max`: NaNs are propagated (R464, R465). -/
def Fmt.ExtremumNaN (f : Fmt W) (less : BitVec W → BitVec W → Prop) (s : Bool) (x y z : BitVec W) : Prop :=
  if f.isnan x = true ∨ f.isnan y = true then
    (f.isnan x = true ∧ z = f.quiet x) ∨ (f.isnan y = true ∧ z = f.quiet y)
  else f.Extremum less s x y z

/-- One lane of `minNum` or `maxNum`: a single NaN is dropped, two are propagated (R466, R467). -/
def Fmt.ExtremumNum (f : Fmt W) (less : BitVec W → BitVec W → Prop) (s : Bool) (x y z : BitVec W) : Prop :=
  (f.isnan x = true → f.isnan y = true → z = f.quiet x ∨ z = f.quiet y) ∧
  (f.isnan x = true → f.isnan y = false → z = y) ∧
  (f.isnan x = false → f.isnan y = true → z = x) ∧
  (f.isnan x = false → f.isnan y = false → f.Extremum less s x y z)

end

end Sys2Proof.Machine
end

