-- ==== Sys2Proof/Certificates/Slice0/Obligations.lean ====
section
/-! DEFINITION. The statements for the provers. Each is a proposition about the model; the rules of the spec it rests on are named in
its docstring. -/

open Sys2Proof Sys2Proof.Machine

/-- Seven statements of 95_test_vectors.md section 3, and one made up (the `swizzle`), decode to what they stand for (30_encoding.md R107, R109). Spacing and the form of names and numerals are the model's choice (log entry 1). -/
def Obligations.DecodedWords : Prop :=
  decode "c = i32x4.add(a, b)".toList = .ok (.i32x4Add ['c'] (.slot ['a']) (.slot ['b'])) ∧
  decode "v32x4.store(m, 32, c)".toList = .ok (.v32x4Store ['m'] 32 (.slot ['c'])) ∧
  decode "(n, fl) = s32x4.fromFloat(w)".toList = .ok (.s32x4FromFloat ['n'] ['f', 'l'] (.slot ['w'])) ∧
  decode "y = f32x4.mul(x, x, TiesToEven)".toList = .ok (.f32x4Mul ['y'] (.slot ['x']) (.slot ['x']) .tiesToEven) ∧
  decode "x = i8x16.extractLane(ru, 6)".toList = .ok (.i8x16ExtractLane ['x'] (.slot ['r', 'u']) 6) ∧
  decode "b = i8x16.splat(0x10:i8)".toList = .ok (.i8x16Splat ['b'] (.lit 0x10)) ∧
  decode "r = v64x2.swizzle(a, [1, 0])".toList = .ok (.v64x2Swizzle ['r'] (.slot ['a']) ⟨[1, 0], rfl⟩) ∧
  decode "b = v32x4.load(m, 20)".toList = .ok (.v32x4Load ['b'] ['m'] 20)

/-- Decode and encode agree on every well-formed instruction: no part of a statement is dropped (30_encoding.md R103, R107, R109). The concrete text is the model's choice (log entry 1). -/
def Obligations.DecodeEncodeRoundTrip : Prop :=
  ∀ i : Instr, i.wellFormed = true → decode (encode i) = .ok i

/-- The decoder gives only well-formed instructions (30_encoding.md R108). What an identifier is, is the model's choice (log entry 1). -/
def Obligations.DecodedIsWellFormed : Prop :=
  ∀ t i, decode t = .ok i → i.wellFormed = true

/-- The mnemonic of the text selects the operation, exactly and case-sensitively (30_encoding.md R100, R101); there are 216 rows, no two alike. Where in a text the mnemonic stands follows the model's reading of texts (log entry 1). -/
def Obligations.MnemonicSelects : Prop :=
  (∀ t st i, (lex t).bind parseStatement = some st → decode t = .ok i → st.mnemonic = i.statement.mnemonic.text) ∧
  rows.length = 216 ∧
  (rows.map Prod.fst).Nodup

/-- A step executes statement `pc` (30_encoding.md R109). -/
def Obligations.StepRunsDecoded : Prop :=
  ∀ (s : State) (is : List Instr) t i, s.fault = none → s.instrs = .ok is → s.program[s.pc]? = some t → decode t = .ok i → step s = exec i s

/-- What a step can do, and what raising a fault leaves (60_exceptions.md R601, R608; 10_state.md R48, R54). That the step from a faulted state answers that fault is the model's choice (log entry 6). -/
def Obligations.StepOutcomes : Prop :=
  (∀ s t : State, step s = .next t → s.fault = none ∧ ((t.pc = s.pc + 1 ∧ t.fault = none) ∨ ∃ f, t = s.raise f)) ∧
  (∀ (s : State) (f : Fault), s.fault = some f → step s = .fault f) ∧
  (∀ (s : State) (f : Fault), (s.raise f).fault = some f ∧ (s.raise f).pc = s.pc ∧ (∀ x, (s.raise f).slot x = s.slot x) ∧
    ∀ m a, (s.raise f).byte m a = s.byte m a)

/-- Refusal before the run by the named checks, and the final state (60_exceptions.md R605, 30_encoding.md R107 to R109, R112). Statement text and its own check, slots without a type, the order of the checks, a ByteOffset outside its type and the refusal of a finished run are the model's choice (log entries 1, 3, 6, 7, 9). -/
def Obligations.RefusedBeforeRun : Prop :=
  (∀ (s : State) c, s.fault = none → s.instrs = .error c → step s = .refused (.illFormed c)) ∧
  (∀ (s : State) (is : List Instr), s.fault = none → s.instrs = .ok is → s.pc = is.length → step s = .refused .runOver) ∧
  (∀ (s : State) (is : List Instr), s.instrs = .ok is ↔ is.length = s.program.length ∧ PassesAll s.launch s.program is) ∧
  (∀ (s : State) c, s.instrs = .error c ↔
    ∃ is t, PassesAll s.launch s.program is ∧ s.program[is.length]? = some t ∧
      Fails s.launch (typesAt is is.length) t c)

/-- The launch is fixed for the run (70_reset_and_hazards.md R642, 20_memory.md R77, R91). -/
def Obligations.LaunchFixed : Prop :=
  ∀ s t : State, step s = .next t →
    t.program = s.program ∧ t.params = s.params ∧ t.mem.map Prod.fst = s.mem.map Prod.fst ∧
      ∀ m, (t.buffer m).map Buffer.len = (s.buffer m).map Buffer.len

/-- An invariant of the model that every step keeps: the canonical form (log entry 4), under which equal contents are equal data. -/
def Obligations.StepKeepsCanonicalForm : Prop :=
  ∀ s t : State, s.wf = true → step s = .next t → t.wf = true

/-- The canonical form holds at reset. -/
def Obligations.ResetHasCanonicalForm : Prop :=
  State.reset.wf = true

/-- The initial state, as far as the spec gives it (70_reset_and_hazards.md R641). -/
def Obligations.ResetState : Prop :=
  (∀ x, State.reset.slot x = none) ∧
  State.reset.pc = 0 ∧
  State.reset.fault = none ∧
  State.reset.params.laneMapping = .leDirect

/-- The type invariant holds at every launch (10_state.md R55). That a slot without a type may be read, and then raises, is the model's choice (log entry 3). -/
def Obligations.LaunchIsTyped : Prop :=
  (∀ (s : State) (is : List Instr), s.slots = [] → s.pc = 0 → s.instrs = .ok is → s.typed) ∧
  State.reset.typed

/-- The types of slots, fixed by the first statement that writes them, are kept by every step (10_state.md R46, 30_encoding.md R108). That a slot without a type may be read, and then raises, is the model's choice (log entry 3). -/
def Obligations.StepKeepsTypes : Prop :=
  ∀ s t : State, s.typed → step s = .next t → t.typed

/-- The three outcomes of a step of a well-formed program, and what decides among them (60_exceptions.md R613, R607). That a slot without a type may be read, and then raises, is the model's choice (log entry 3). -/
def Obligations.WellTypedRunsGoOn : Prop :=
  ∀ s : State, s.typed → s.fault = none → s.pc < s.program.length →
    ∃ text i t, s.program[s.pc]? = some text ∧ decode text = .ok i ∧ step s = .next t ∧
      ((unwrittenReads i.statement s = [] ∧ (∀ m a n, Accesses i.statement m a n → Accessible s m a n) ∧
          t.pc = s.pc + 1 ∧ t.fault = none) ∨
        (∃ x rest, unwrittenReads i.statement s = x :: rest ∧ t = s.raise (.unwrittenSlot x)) ∨
        (unwrittenReads i.statement s = [] ∧
          ∃ m a n, Accesses i.statement m a n ∧ ¬ Accessible s m a n ∧ t = s.raise (.bufferRange m a n)))

/-- `UnwrittenSlot`: the operands are examined in signature order, before the operation (60_exceptions.md R604, R607). That the fault is raised at run time, and the program not refused, is the model's choice (log entry 3). -/
def Obligations.UnwrittenSlotRaised : Prop :=
  ∀ (i : Instr) (s : State) x rest, StatementFits i.statement s → unwrittenReads i.statement s = x :: rest →
    exec i s = .next (s.raise (.unwrittenSlot x))

/-- `BufferRange` of the 14 loads and stores (60_exceptions.md R603). -/
def Obligations.BufferRangeRaised : Prop :=
  LoadRaises 16 .v8x16Load ∧
  LoadRaises 16 .v16x8Load ∧
  LoadRaises 16 .v32x4Load ∧
  LoadRaises 16 .v64x2Load ∧
  LoadRaises 4 .v32x4Load1 ∧
  LoadRaises 8 .v32x4Load2 ∧
  LoadRaises 12 .v32x4Load3 ∧
  StoreRaises 16 .v8x16Store ∧
  StoreRaises 16 .v16x8Store ∧
  StoreRaises 16 .v32x4Store ∧
  StoreRaises 16 .v64x2Store ∧
  StoreRaises 4 .v32x4Store1 ∧
  StoreRaises 8 .v32x4Store2 ∧
  StoreRaises 12 .v32x4Store3

/-- No other operation can raise `BufferRange`, and none with another Buffer, address or byte count than its own (60_exceptions.md R603). -/
def Obligations.OnlyAccessesRaiseBufferRange : Prop :=
  ∀ (i : Instr) s t m a n, exec i s = .next t → s.fault = none → t.fault = some (.bufferRange m a n) →
    Accesses i.statement m a n ∧ ¬ Accessible s m a n

/-- Neither the draws, the launch parameters but `OFFSET_BITS`, the contents of Buffers nor the values in slots influence a fault (60_exceptions.md R613). -/
def Obligations.FaultsIgnoreParameters : Prop :=
  ∀ (i : Instr) (s t : State) f, SameShape s t → (exec i s = .next (s.raise f) ↔ exec i t = .next (t.raise f))

/-- The checks of 30_encoding.md R108 on one instruction in one state, each refusing by its name. That `exec` makes the checks again, their order, and the refusal of a ByteOffset outside its type are the model's choice (log entries 7, 8, 9). -/
def Obligations.ChecksRefuseByName : Prop :=
  ∀ (i : Instr) s,
    let readsFit := (∀ e ∈ i.statement.reads, s.accepts e.1 e.2 = true) ∧ ∀ a, i.statement.offset? = some a → a < 2 ^ s.params.offsetBits
    let destsFit := ∀ e ∈ i.statement.dests, s.accepts e.1 e.2 = true
    let bufferFits := ∀ m, i.statement.buffer? = some m → (s.buffer m).isSome = true
    (¬ readsFit → exec i s = .refused (.illFormed .operandTypes)) ∧
    (readsFit → ¬ destsFit → exec i s = .refused (.illFormed .destinationTypes)) ∧
    (readsFit → destsFit → ¬ bufferFits → exec i s = .refused (.illFormed .bufferKnown)) ∧
    (readsFit → destsFit → bufferFits → distinctNames (i.statement.dests.map Prod.fst) = false →
      exec i s = .refused (.illFormed .distinctDestinations))

/-- `build` of numerical lanes (41_construct.md R200), with its frame. -/
def Obligations.BuildPatternLanes : Prop :=
  BuildsPatterns 16 kI8 .i8x16Build ∧
  BuildsPatterns 8 kI16 .i16x8Build ∧
  BuildsPatterns 4 kI32 .i32x4Build ∧
  BuildsPatterns 2 kI64 .i64x2Build ∧
  BuildsPatterns 4 kF32 .f32x4Build ∧
  BuildsPatterns 2 kF64 .f64x2Build

/-- `build` of boolean lanes (41_construct.md R200), with its frame. -/
def Obligations.BuildBooleanLanes : Prop :=
  BuildsBooleans kB8x16 .b8x16Build ∧
  BuildsBooleans kB16x8 .b16x8Build ∧
  BuildsBooleans kB32x4 .b32x4Build ∧
  BuildsBooleans kB64x2 .b64x2Build

/-- `splat` (41_construct.md R201), with its frame. -/
def Obligations.SplatLanes : Prop :=
  SplatsPattern 16 kI8 .i8x16Splat ∧
  SplatsPattern 8 kI16 .i16x8Splat ∧
  SplatsPattern 4 kI32 .i32x4Splat ∧
  SplatsPattern 2 kI64 .i64x2Splat ∧
  SplatsPattern 4 kF32 .f32x4Splat ∧
  SplatsPattern 2 kF64 .f64x2Splat ∧
  SplatsBoolean kB8x16 .b8x16Splat ∧
  SplatsBoolean kB16x8 .b16x8Splat ∧
  SplatsBoolean kB32x4 .b32x4Splat ∧
  SplatsBoolean kB64x2 .b64x2Splat

/-- `extractLane` (42_lane_access.md R230), with its frame. -/
def Obligations.ExtractedLane : Prop :=
  ExtractsPattern kI8 .i8x16ExtractLane ∧
  ExtractsPattern kI16 .i16x8ExtractLane ∧
  ExtractsPattern kI32 .i32x4ExtractLane ∧
  ExtractsPattern kI64 .i64x2ExtractLane ∧
  ExtractsPattern kF32 .f32x4ExtractLane ∧
  ExtractsPattern kF64 .f64x2ExtractLane ∧
  ExtractsBoolean kB8x16 .b8x16ExtractLane ∧
  ExtractsBoolean kB16x8 .b16x8ExtractLane ∧
  ExtractsBoolean kB32x4 .b32x4ExtractLane ∧
  ExtractsBoolean kB64x2 .b64x2ExtractLane

/-- `replaceLane` (42_lane_access.md R231), with its frame. -/
def Obligations.ReplacedLane : Prop :=
  ReplacesPattern kI8 .i8x16ReplaceLane ∧
  ReplacesPattern kI16 .i16x8ReplaceLane ∧
  ReplacesPattern kI32 .i32x4ReplaceLane ∧
  ReplacesPattern kI64 .i64x2ReplaceLane ∧
  ReplacesPattern kF32 .f32x4ReplaceLane ∧
  ReplacesPattern kF64 .f64x2ReplaceLane ∧
  ReplacesBoolean kB8x16 .b8x16ReplaceLane ∧
  ReplacesBoolean kB16x8 .b16x8ReplaceLane ∧
  ReplacesBoolean kB32x4 .b32x4ReplaceLane ∧
  ReplacesBoolean kB64x2 .b64x2ReplaceLane

/-- `select` (42_lane_access.md R232), with its frame. -/
def Obligations.SelectedLanes : Prop :=
  SelectsLanes 8 kB8x16 .v8x16Select ∧
  SelectsLanes 16 kB16x8 .v16x8Select ∧
  SelectsLanes 32 kB32x4 .v32x4Select ∧
  SelectsLanes 64 kB64x2 .v64x2Select

/-- `swizzle` (42_lane_access.md R233), with its frame. -/
def Obligations.SwizzledLanes : Prop :=
  Swizzles 8 .v8x16Swizzle ∧
  Swizzles 16 .v16x8Swizzle ∧
  Swizzles 32 .v32x4Swizzle ∧
  Swizzles 64 .v64x2Swizzle

/-- `shuffle` (42_lane_access.md R234), with its frame. -/
def Obligations.ShuffledLanes : Prop :=
  Shuffles 8 16 .v8x16Shuffle ∧
  Shuffles 16 8 .v16x8Shuffle ∧
  Shuffles 32 4 .v32x4Shuffle ∧
  Shuffles 64 2 .v64x2Shuffle

/-- Wrapping addition (43_int_arith.md R271), with its frame. -/
def Obligations.IntegerAddWraps : Prop :=
  BinaryLanes 8 16 0 .i8x16Add (fun _ x y z => z.toNat = (x.toNat + y.toNat) % 2 ^ 8) ∧
  BinaryLanes 16 8 0 .i16x8Add (fun _ x y z => z.toNat = (x.toNat + y.toNat) % 2 ^ 16) ∧
  BinaryLanes 32 4 0 .i32x4Add (fun _ x y z => z.toNat = (x.toNat + y.toNat) % 2 ^ 32) ∧
  BinaryLanes 64 2 0 .i64x2Add (fun _ x y z => z.toNat = (x.toNat + y.toNat) % 2 ^ 64)

/-- Wrapping subtraction (43_int_arith.md R272), with its frame. -/
def Obligations.IntegerSubWraps : Prop :=
  BinaryLanes 8 16 0 .i8x16Sub (fun _ x y z => (z.toNat : Int) = ((x.toNat : Int) - y.toNat) % 2 ^ 8) ∧
  BinaryLanes 16 8 0 .i16x8Sub (fun _ x y z => (z.toNat : Int) = ((x.toNat : Int) - y.toNat) % 2 ^ 16) ∧
  BinaryLanes 32 4 0 .i32x4Sub (fun _ x y z => (z.toNat : Int) = ((x.toNat : Int) - y.toNat) % 2 ^ 32) ∧
  BinaryLanes 64 2 0 .i64x2Sub (fun _ x y z => (z.toNat : Int) = ((x.toNat : Int) - y.toNat) % 2 ^ 64)

/-- Wrapping multiplication (43_int_arith.md R273), with its frame. -/
def Obligations.IntegerMulWraps : Prop :=
  BinaryLanes 8 16 0 .i8x16Mul (fun _ x y z =>
    z.toNat = (x.toNat * y.toNat) % 2 ^ 8 ∧ (z.toNat : Int) = (x.toInt * y.toInt) % 2 ^ 8) ∧
  BinaryLanes 16 8 0 .i16x8Mul (fun _ x y z =>
    z.toNat = (x.toNat * y.toNat) % 2 ^ 16 ∧ (z.toNat : Int) = (x.toInt * y.toInt) % 2 ^ 16) ∧
  BinaryLanes 32 4 0 .i32x4Mul (fun _ x y z =>
    z.toNat = (x.toNat * y.toNat) % 2 ^ 32 ∧ (z.toNat : Int) = (x.toInt * y.toInt) % 2 ^ 32) ∧
  BinaryLanes 64 2 0 .i64x2Mul (fun _ x y z =>
    z.toNat = (x.toNat * y.toNat) % 2 ^ 64 ∧ (z.toNat : Int) = (x.toInt * y.toInt) % 2 ^ 64)

/-- Wrapping negation (43_int_arith.md R274), with its frame. -/
def Obligations.IntegerNegWraps : Prop :=
  UnaryLanes 8 16 0 .i8x16Neg (fun _ x z => z.toNat = (2 ^ 8 - x.toNat) % 2 ^ 8) ∧
  UnaryLanes 16 8 0 .i16x8Neg (fun _ x z => z.toNat = (2 ^ 16 - x.toNat) % 2 ^ 16) ∧
  UnaryLanes 32 4 0 .i32x4Neg (fun _ x z => z.toNat = (2 ^ 32 - x.toNat) % 2 ^ 32) ∧
  UnaryLanes 64 2 0 .i64x2Neg (fun _ x z => z.toNat = (2 ^ 64 - x.toNat) % 2 ^ 64)

/-- Saturating addition (43_int_arith.md R276), with its frame. -/
def Obligations.AddSaturates : Prop :=
  BinaryLanes 8 16 0 .s8x16AddSaturate (fun _ x y z =>
    z.toInt = max (-(2 ^ 7)) (min (2 ^ 7 - 1) (x.toInt + y.toInt))) ∧
  BinaryLanes 16 8 0 .s16x8AddSaturate (fun _ x y z =>
    z.toInt = max (-(2 ^ 15)) (min (2 ^ 15 - 1) (x.toInt + y.toInt))) ∧
  BinaryLanes 8 16 0 .u8x16AddSaturate (fun _ x y z =>
    (z.toNat : Int) = max 0 (min (2 ^ 8 - 1) ((x.toNat : Int) + y.toNat))) ∧
  BinaryLanes 16 8 0 .u16x8AddSaturate (fun _ x y z =>
    (z.toNat : Int) = max 0 (min (2 ^ 16 - 1) ((x.toNat : Int) + y.toNat)))

/-- Saturating subtraction (43_int_arith.md R277), with its frame. -/
def Obligations.SubSaturates : Prop :=
  BinaryLanes 8 16 0 .s8x16SubSaturate (fun _ x y z =>
    z.toInt = max (-(2 ^ 7)) (min (2 ^ 7 - 1) (x.toInt - y.toInt))) ∧
  BinaryLanes 16 8 0 .s16x8SubSaturate (fun _ x y z =>
    z.toInt = max (-(2 ^ 15)) (min (2 ^ 15 - 1) (x.toInt - y.toInt))) ∧
  BinaryLanes 8 16 0 .u8x16SubSaturate (fun _ x y z =>
    (z.toNat : Int) = max 0 (min (2 ^ 8 - 1) ((x.toNat : Int) - y.toNat))) ∧
  BinaryLanes 16 8 0 .u16x8SubSaturate (fun _ x y z =>
    (z.toNat : Int) = max 0 (min (2 ^ 16 - 1) ((x.toNat : Int) - y.toNat)))

/-- Left shift (43_int_arith.md R278), with its frame. -/
def Obligations.ShiftsLeft : Prop :=
  ShiftLanes 8 16 .i8x16ShiftLeftByScalar (fun x y z => z.toNat = (x.toNat * 2 ^ (y.toNat % 8)) % 2 ^ 8) ∧
  ShiftLanes 16 8 .i16x8ShiftLeftByScalar (fun x y z => z.toNat = (x.toNat * 2 ^ (y.toNat % 16)) % 2 ^ 16) ∧
  ShiftLanes 32 4 .i32x4ShiftLeftByScalar (fun x y z => z.toNat = (x.toNat * 2 ^ (y.toNat % 32)) % 2 ^ 32) ∧
  ShiftLanes 64 2 .i64x2ShiftLeftByScalar (fun x y z => z.toNat = (x.toNat * 2 ^ (y.toNat % 64)) % 2 ^ 64)

/-- Right shifts (43_int_arith.md R279), with their frame. `/` on integers with a positive divisor is the floor. -/
def Obligations.ShiftsRight : Prop :=
  ShiftLanes 8 16 .s8x16ShiftRightByScalar (fun x y z => z.toInt = x.toInt / 2 ^ (y.toNat % 8)) ∧
  ShiftLanes 16 8 .s16x8ShiftRightByScalar (fun x y z => z.toInt = x.toInt / 2 ^ (y.toNat % 16)) ∧
  ShiftLanes 32 4 .s32x4ShiftRightByScalar (fun x y z => z.toInt = x.toInt / 2 ^ (y.toNat % 32)) ∧
  ShiftLanes 64 2 .s64x2ShiftRightByScalar (fun x y z => z.toInt = x.toInt / 2 ^ (y.toNat % 64)) ∧
  ShiftLanes 8 16 .u8x16ShiftRightByScalar (fun x y z => z.toNat = x.toNat / 2 ^ (y.toNat % 8)) ∧
  ShiftLanes 16 8 .u16x8ShiftRightByScalar (fun x y z => z.toNat = x.toNat / 2 ^ (y.toNat % 16)) ∧
  ShiftLanes 32 4 .u32x4ShiftRightByScalar (fun x y z => z.toNat = x.toNat / 2 ^ (y.toNat % 32)) ∧
  ShiftLanes 64 2 .u64x2ShiftRightByScalar (fun x y z => z.toNat = x.toNat / 2 ^ (y.toNat % 64))

/-- Logical operations (44_logical_bitwise.md R320 to R323), with their frame. -/
def Obligations.BooleanLogic : Prop :=
  BooleanBinary kB8x16 .b8x16And (fun p q => p && q) ∧
  BooleanBinary kB16x8 .b16x8And (fun p q => p && q) ∧
  BooleanBinary kB32x4 .b32x4And (fun p q => p && q) ∧
  BooleanBinary kB64x2 .b64x2And (fun p q => p && q) ∧
  BooleanBinary kB8x16 .b8x16Or (fun p q => p || q) ∧
  BooleanBinary kB16x8 .b16x8Or (fun p q => p || q) ∧
  BooleanBinary kB32x4 .b32x4Or (fun p q => p || q) ∧
  BooleanBinary kB64x2 .b64x2Or (fun p q => p || q) ∧
  BooleanBinary kB8x16 .b8x16Xor (fun p q => p != q) ∧
  BooleanBinary kB16x8 .b16x8Xor (fun p q => p != q) ∧
  BooleanBinary kB32x4 .b32x4Xor (fun p q => p != q) ∧
  BooleanBinary kB64x2 .b64x2Xor (fun p q => p != q) ∧
  BooleanUnary kB8x16 .b8x16Not (fun p => !p) ∧
  BooleanUnary kB16x8 .b16x8Not (fun p => !p) ∧
  BooleanUnary kB32x4 .b32x4Not (fun p => !p) ∧
  BooleanUnary kB64x2 .b64x2Not (fun p => !p)

/-- Bitwise operations on `v128` (44_logical_bitwise.md R324), with their frame. -/
def Obligations.BitwiseVector : Prop :=
  (∀ s d a b va vb, Holds kV128 s a va → Holds kV128 s b vb → s.accepts d .v128 = true →
    Completes kV128 (exec (.v128And d a b) s) s d 0 fun v =>
      (∀ k, v.getLsbD k = (va.getLsbD k && vb.getLsbD k)) ∧
      ∀ W i, W * (i + 1) ≤ 128 → lane s.params.laneMapping W v i =
        lane s.params.laneMapping W va i &&& lane s.params.laneMapping W vb i) ∧
  (∀ s d a b va vb, Holds kV128 s a va → Holds kV128 s b vb → s.accepts d .v128 = true →
    Completes kV128 (exec (.v128Or d a b) s) s d 0 fun v =>
      (∀ k, v.getLsbD k = (va.getLsbD k || vb.getLsbD k)) ∧
      ∀ W i, W * (i + 1) ≤ 128 → lane s.params.laneMapping W v i =
        lane s.params.laneMapping W va i ||| lane s.params.laneMapping W vb i) ∧
  (∀ s d a b va vb, Holds kV128 s a va → Holds kV128 s b vb → s.accepts d .v128 = true →
    Completes kV128 (exec (.v128Xor d a b) s) s d 0 fun v =>
      (∀ k, v.getLsbD k = (va.getLsbD k != vb.getLsbD k)) ∧
      ∀ W i, W * (i + 1) ≤ 128 → lane s.params.laneMapping W v i =
        lane s.params.laneMapping W va i ^^^ lane s.params.laneMapping W vb i) ∧
  (∀ s d a va, Holds kV128 s a va → s.accepts d .v128 = true →
    Completes kV128 (exec (.v128Not d a) s) s d 0 fun v =>
      (∀ k < 128, v.getLsbD k = !va.getLsbD k) ∧
      ∀ W i, W * (i + 1) ≤ 128 → lane s.params.laneMapping W v i = ~~~(lane s.params.laneMapping W va i))

/-- Reductions (44_logical_bitwise.md R325, R326), with their frame. -/
def Obligations.BooleanReductions : Prop :=
  Reduces kB8x16 .b8x16AnyTrue (fun v => ∃ i, v.at i = true) ∧
  Reduces kB16x8 .b16x8AnyTrue (fun v => ∃ i, v.at i = true) ∧
  Reduces kB32x4 .b32x4AnyTrue (fun v => ∃ i, v.at i = true) ∧
  Reduces kB64x2 .b64x2AnyTrue (fun v => ∃ i, v.at i = true) ∧
  Reduces kB8x16 .b8x16AllTrue (fun v => ∀ i, v.at i = true) ∧
  Reduces kB16x8 .b16x8AllTrue (fun v => ∀ i, v.at i = true) ∧
  Reduces kB32x4 .b32x4AllTrue (fun v => ∀ i, v.at i = true) ∧
  Reduces kB64x2 .b64x2AllTrue (fun v => ∀ i, v.at i = true)

/-- Integer equality (45_comparisons.md R361, R362), with its frame. -/
def Obligations.IntegerEquality : Prop :=
  CompareLanes 8 kB8x16 .i8x16Equal (fun x y => x = y) ∧
  CompareLanes 16 kB16x8 .i16x8Equal (fun x y => x = y) ∧
  CompareLanes 32 kB32x4 .i32x4Equal (fun x y => x = y) ∧
  CompareLanes 64 kB64x2 .i64x2Equal (fun x y => x = y) ∧
  CompareLanes 8 kB8x16 .i8x16NotEqual (fun x y => x ≠ y) ∧
  CompareLanes 16 kB16x8 .i16x8NotEqual (fun x y => x ≠ y) ∧
  CompareLanes 32 kB32x4 .i32x4NotEqual (fun x y => x ≠ y) ∧
  CompareLanes 64 kB64x2 .i64x2NotEqual (fun x y => x ≠ y)

/-- Signed comparisons (45_comparisons.md R363 to R366), with their frame. -/
def Obligations.SignedOrder : Prop :=
  CompareLanes 8 kB8x16 .s8x16LessThan (fun x y => x.toInt < y.toInt) ∧
  CompareLanes 16 kB16x8 .s16x8LessThan (fun x y => x.toInt < y.toInt) ∧
  CompareLanes 32 kB32x4 .s32x4LessThan (fun x y => x.toInt < y.toInt) ∧
  CompareLanes 64 kB64x2 .s64x2LessThan (fun x y => x.toInt < y.toInt) ∧
  CompareLanes 8 kB8x16 .s8x16LessThanOrEqual (fun x y => x.toInt ≤ y.toInt) ∧
  CompareLanes 16 kB16x8 .s16x8LessThanOrEqual (fun x y => x.toInt ≤ y.toInt) ∧
  CompareLanes 32 kB32x4 .s32x4LessThanOrEqual (fun x y => x.toInt ≤ y.toInt) ∧
  CompareLanes 64 kB64x2 .s64x2LessThanOrEqual (fun x y => x.toInt ≤ y.toInt) ∧
  CompareLanes 8 kB8x16 .s8x16GreaterThan (fun x y => y.toInt < x.toInt) ∧
  CompareLanes 16 kB16x8 .s16x8GreaterThan (fun x y => y.toInt < x.toInt) ∧
  CompareLanes 32 kB32x4 .s32x4GreaterThan (fun x y => y.toInt < x.toInt) ∧
  CompareLanes 64 kB64x2 .s64x2GreaterThan (fun x y => y.toInt < x.toInt) ∧
  CompareLanes 8 kB8x16 .s8x16GreaterThanOrEqual (fun x y => y.toInt ≤ x.toInt) ∧
  CompareLanes 16 kB16x8 .s16x8GreaterThanOrEqual (fun x y => y.toInt ≤ x.toInt) ∧
  CompareLanes 32 kB32x4 .s32x4GreaterThanOrEqual (fun x y => y.toInt ≤ x.toInt) ∧
  CompareLanes 64 kB64x2 .s64x2GreaterThanOrEqual (fun x y => y.toInt ≤ x.toInt)

/-- Unsigned comparisons (45_comparisons.md R363 to R366), with their frame. -/
def Obligations.UnsignedOrder : Prop :=
  CompareLanes 8 kB8x16 .u8x16LessThan (fun x y => x.toNat < y.toNat) ∧
  CompareLanes 16 kB16x8 .u16x8LessThan (fun x y => x.toNat < y.toNat) ∧
  CompareLanes 32 kB32x4 .u32x4LessThan (fun x y => x.toNat < y.toNat) ∧
  CompareLanes 64 kB64x2 .u64x2LessThan (fun x y => x.toNat < y.toNat) ∧
  CompareLanes 8 kB8x16 .u8x16LessThanOrEqual (fun x y => x.toNat ≤ y.toNat) ∧
  CompareLanes 16 kB16x8 .u16x8LessThanOrEqual (fun x y => x.toNat ≤ y.toNat) ∧
  CompareLanes 32 kB32x4 .u32x4LessThanOrEqual (fun x y => x.toNat ≤ y.toNat) ∧
  CompareLanes 64 kB64x2 .u64x2LessThanOrEqual (fun x y => x.toNat ≤ y.toNat) ∧
  CompareLanes 8 kB8x16 .u8x16GreaterThan (fun x y => y.toNat < x.toNat) ∧
  CompareLanes 16 kB16x8 .u16x8GreaterThan (fun x y => y.toNat < x.toNat) ∧
  CompareLanes 32 kB32x4 .u32x4GreaterThan (fun x y => y.toNat < x.toNat) ∧
  CompareLanes 64 kB64x2 .u64x2GreaterThan (fun x y => y.toNat < x.toNat) ∧
  CompareLanes 8 kB8x16 .u8x16GreaterThanOrEqual (fun x y => y.toNat ≤ x.toNat) ∧
  CompareLanes 16 kB16x8 .u16x8GreaterThanOrEqual (fun x y => y.toNat ≤ x.toNat) ∧
  CompareLanes 32 kB32x4 .u32x4GreaterThanOrEqual (fun x y => y.toNat ≤ x.toNat) ∧
  CompareLanes 64 kB64x2 .u64x2GreaterThanOrEqual (fun x y => y.toNat ≤ x.toNat)

/-- Floating-point comparisons (45_comparisons.md R361 to R367, 40_fp_semantics.md R157), with their frame. The value of a pattern and the order of values come to the spec from general knowledge (log entry 10); that comparisons do not flush is decision D10 (log entry 11). -/
def Obligations.FloatComparisons : Prop :=
  CompareLanes 32 kB32x4 .f32x4Equal (fun x y => binary32.Equal x y) ∧
  CompareLanes 64 kB64x2 .f64x2Equal (fun x y => binary64.Equal x y) ∧
  CompareLanes 32 kB32x4 .f32x4NotEqual (fun x y => ¬ binary32.Equal x y) ∧
  CompareLanes 64 kB64x2 .f64x2NotEqual (fun x y => ¬ binary64.Equal x y) ∧
  CompareLanes 32 kB32x4 .f32x4LessThan (fun x y => binary32.Less x y) ∧
  CompareLanes 64 kB64x2 .f64x2LessThan (fun x y => binary64.Less x y) ∧
  CompareLanes 32 kB32x4 .f32x4LessThanOrEqual (fun x y => binary32.Less x y ∨ binary32.Equal x y) ∧
  CompareLanes 64 kB64x2 .f64x2LessThanOrEqual (fun x y => binary64.Less x y ∨ binary64.Equal x y) ∧
  CompareLanes 32 kB32x4 .f32x4GreaterThan (fun x y => binary32.Less y x) ∧
  CompareLanes 64 kB64x2 .f64x2GreaterThan (fun x y => binary64.Less y x) ∧
  CompareLanes 32 kB32x4 .f32x4GreaterThanOrEqual (fun x y => binary32.Less y x ∨ binary32.Equal x y) ∧
  CompareLanes 64 kB64x2 .f64x2GreaterThanOrEqual (fun x y => binary64.Less y x ∨ binary64.Equal x y)

/-- Full loads (46_load_store.md R431), with their frame. -/
def Obligations.FullLoads : Prop :=
  Loads 8 16 16 .v8x16Load ∧
  Loads 16 8 8 .v16x8Load ∧
  Loads 32 4 4 .v32x4Load ∧
  Loads 64 2 2 .v64x2Load

/-- Partial loads (46_load_store.md R433), with their frame. -/
def Obligations.PartialLoads : Prop :=
  Loads 32 4 1 .v32x4Load1 ∧
  Loads 32 4 2 .v32x4Load2 ∧
  Loads 32 4 3 .v32x4Load3

/-- Full stores (46_load_store.md R432), with their frame: the bytes stored to are those from `addr` on. The premise of canonical form is the model's representation (log entry 4). -/
def Obligations.FullStores : Prop :=
  Stores 8 16 .v8x16Store ∧
  Stores 16 8 .v16x8Store ∧
  Stores 32 4 .v32x4Store ∧
  Stores 64 2 .v64x2Store

/-- Partial stores (46_load_store.md R434), with their frame. The premise of canonical form is the model's representation (log entry 4). -/
def Obligations.PartialStores : Prop :=
  Stores 32 1 .v32x4Store1 ∧
  Stores 32 2 .v32x4Store2 ∧
  Stores 32 3 .v32x4Store3

/-- `neg` and `abs` (47_fp_sign_minmax.md R461, R462), with their frame. -/
def Obligations.FloatSignOperations : Prop :=
  UnaryLanes 32 4 0 .f32x4Neg (fun _ x z => ∀ k, z.getLsbD k = if k = 31 then !x.getLsbD k else x.getLsbD k) ∧
  UnaryLanes 64 2 0 .f64x2Neg (fun _ x z => ∀ k, z.getLsbD k = if k = 63 then !x.getLsbD k else x.getLsbD k) ∧
  UnaryLanes 32 4 0 .f32x4Abs (fun _ x z => ∀ k, z.getLsbD k = if k = 31 then false else x.getLsbD k) ∧
  UnaryLanes 64 2 0 .f64x2Abs (fun _ x z => ∀ k, z.getLsbD k = if k = 63 then false else x.getLsbD k)

/-- `min` and `max` (47_fp_sign_minmax.md R464, R465), with their frame. The count of draws in the frame is the model's own (log entry 5), the order of values comes to the spec from general knowledge (log entry 10), and that subnormals are compared and returned exactly, not flushed, is decision D10 (log entry 11). -/
def Obligations.FloatMinMax : Prop :=
  BinaryLanes 32 4 4 .f32x4Min (fun _ => binary32.ExtremumNaN binary32.Less true) ∧
  BinaryLanes 64 2 2 .f64x2Min (fun _ => binary64.ExtremumNaN binary64.Less true) ∧
  BinaryLanes 32 4 4 .f32x4Max (fun _ => binary32.ExtremumNaN (fun x y => binary32.Less y x) false) ∧
  BinaryLanes 64 2 2 .f64x2Max (fun _ => binary64.ExtremumNaN (fun x y => binary64.Less y x) false)

/-- `minNum` and `maxNum` (47_fp_sign_minmax.md R466, R467), with their frame. The count of draws in the frame is the model's own (log entry 5), the order of values comes to the spec from general knowledge (log entry 10), and that subnormals are compared and returned exactly, not flushed, is decision D10 (log entry 11). -/
def Obligations.FloatMinNumMaxNum : Prop :=
  BinaryLanes 32 4 4 .f32x4MinNum (fun _ => binary32.ExtremumNum binary32.Less true) ∧
  BinaryLanes 64 2 2 .f64x2MinNum (fun _ => binary64.ExtremumNum binary64.Less true) ∧
  BinaryLanes 32 4 4 .f32x4MaxNum (fun _ => binary32.ExtremumNum (fun x y => binary32.Less y x) false) ∧
  BinaryLanes 64 2 2 .f64x2MaxNum (fun _ => binary64.ExtremumNum (fun x y => binary64.Less y x) false)

/-- `add` and `sub` (48_fp_arith.md R501, R502), with their frame. The count of draws in the frame is the model's own (log entry 5), correct rounding comes to the spec from general knowledge (log entry 10), and which operations flush is decision D10 (log entry 11). -/
def Obligations.FloatAddSub : Prop :=
  (∀ rm, BinaryLanes 32 4 4 (fun d a b => .f32x4Add d a b rm) (fun p => binary32.WrappedBinary p binary32.SumInvalid (binary32.Sum rm))) ∧
  (∀ rm, BinaryLanes 64 2 2 (fun d a b => .f64x2Add d a b rm) (fun p => binary64.WrappedBinary p binary64.SumInvalid (binary64.Sum rm))) ∧
  (∀ rm, BinaryLanes 32 4 4 (fun d a b => .f32x4Sub d a b rm) (fun p => binary32.WrappedBinary p (fun x y => binary32.SumInvalid x (fpNegate y)) (fun x y r => binary32.Sum rm x (fpNegate y) r))) ∧
  (∀ rm, BinaryLanes 64 2 2 (fun d a b => .f64x2Sub d a b rm) (fun p => binary64.WrappedBinary p (fun x y => binary64.SumInvalid x (fpNegate y)) (fun x y r => binary64.Sum rm x (fpNegate y) r)))

/-- `mul` and `div` (48_fp_arith.md R503, R504), with their frame. The count of draws in the frame is the model's own (log entry 5), correct rounding comes to the spec from general knowledge (log entry 10), and which operations flush is decision D10 (log entry 11). -/
def Obligations.FloatMulDiv : Prop :=
  (∀ rm, BinaryLanes 32 4 4 (fun d a b => .f32x4Mul d a b rm) (fun p => binary32.WrappedBinary p binary32.ProductInvalid (binary32.Product rm))) ∧
  (∀ rm, BinaryLanes 64 2 2 (fun d a b => .f64x2Mul d a b rm) (fun p => binary64.WrappedBinary p binary64.ProductInvalid (binary64.Product rm))) ∧
  (∀ rm, BinaryLanes 32 4 4 (fun d a b => .f32x4Div d a b rm) (fun p => binary32.WrappedBinary p binary32.QuotientInvalid (binary32.Quotient rm))) ∧
  (∀ rm, BinaryLanes 64 2 2 (fun d a b => .f64x2Div d a b rm) (fun p => binary64.WrappedBinary p binary64.QuotientInvalid (binary64.Quotient rm)))

/-- `sqrt` (48_fp_arith.md R505), with its frame. The count of draws in the frame is the model's own (log entry 5), correct rounding comes to the spec from general knowledge (log entry 10), and which operations flush is decision D10 (log entry 11). -/
def Obligations.FloatSquareRoot : Prop :=
  (∀ rm, UnaryLanes 32 4 4 (fun d a => .f32x4Sqrt d a rm) (fun p => binary32.WrappedUnary p binary32.RootInvalid (binary32.Root rm))) ∧
  (∀ rm, UnaryLanes 64 2 2 (fun d a => .f64x2Sqrt d a rm) (fun p => binary64.WrappedUnary p binary64.RootInvalid (binary64.Root rm)))

/-- The approximations (48_fp_arith.md R506, R507), with their frame. The count of draws in the frame is the model's own (log entry 5); the free lanes follow decision D13 (log entry 13). -/
def Obligations.ReciprocalApproximations : Prop :=
  UnaryLanes 32 4 4 .f32x4ReciprocalApproximation (fun _ => binary32.Approximates) ∧
  UnaryLanes 64 2 2 .f64x2ReciprocalApproximation (fun _ => binary64.Approximates) ∧
  UnaryLanes 32 4 4 .f32x4ReciprocalSqrtApproximation (fun _ => binary32.Approximates) ∧
  UnaryLanes 64 2 2 .f64x2ReciprocalSqrtApproximation (fun _ => binary64.Approximates)

/-- Conversions from integers (49_conversions.md R550, R551), with their frame. Reading the operand at the width of the result is decision D19 (log entry 14), and that a result is not flushed decision D10 (log entry 11); correct rounding comes to the spec from general knowledge (log entry 10). -/
def Obligations.IntegersToFloat : Prop :=
  (∀ rm, UnaryLanes 32 4 0 (fun d a => .f32x4FromSignedInt d a rm) (fun _ x z =>
    (x.toInt = 0 → z = binary32.zero false) ∧ (x.toInt ≠ 0 → binary32.Rounds rm (x.toInt : ℝ) z))) ∧
  (∀ rm, UnaryLanes 64 2 0 (fun d a => .f64x2FromSignedInt d a rm) (fun _ x z =>
    (x.toInt = 0 → z = binary64.zero false) ∧ (x.toInt ≠ 0 → binary64.Rounds rm (x.toInt : ℝ) z))) ∧
  (∀ rm, UnaryLanes 32 4 0 (fun d a => .f32x4FromUnsignedInt d a rm) (fun _ x z =>
    (x.toNat = 0 → z = binary32.zero false) ∧ (x.toNat ≠ 0 → binary32.Rounds rm (x.toNat : ℝ) z))) ∧
  (∀ rm, UnaryLanes 64 2 0 (fun d a => .f64x2FromUnsignedInt d a rm) (fun _ x z =>
    (x.toNat = 0 → z = binary64.zero false) ∧ (x.toNat ≠ 0 → binary64.Rounds rm (x.toNat : ℝ) z)))

/-- `fromFloat` (49_conversions.md R552), with its frame. The count of draws in the frame is the model's own (log entry 5); reading the operand at the width of the result is decision D19 (log entry 14), and that subnormals are not flushed decision D10 (log entry 11); the value of a pattern comes to the spec from general knowledge (log entry 10). -/
def Obligations.FloatToIntegers : Prop :=
  ConvertsLanes binary32 4 (-(2 ^ 31)) (2 ^ 31 - 1) BitVec.toInt .s32x4FromFloat ∧
  ConvertsLanes binary64 2 (-(2 ^ 63)) (2 ^ 63 - 1) BitVec.toInt .s64x2FromFloat ∧
  ConvertsLanes binary32 4 0 (2 ^ 32 - 1) (fun x => (x.toNat : Int)) .u32x4FromFloat ∧
  ConvertsLanes binary64 2 0 (2 ^ 64 - 1) (fun x => (x.toNat : Int)) .u64x2FromFloat

/-- A load after a store (46_load_store.md R432, 20_memory.md R72). The premise of canonical form is the model's representation (log entry 4). -/
def Obligations.StoreThenLoad : Prop :=
  (∀ (s t : State) d mem addr data v, s.wf = true → Holds kV128 s data v → exec (.v8x16Store mem addr data) s = .next t →
    t.fault = none → t.accepts d .v128 = true → exec (.v8x16Load d mem addr) t = .next (t.retire d (.v128 v))) ∧
  (∀ (s t : State) d mem addr data v, s.wf = true → Holds kV128 s data v → exec (.v16x8Store mem addr data) s = .next t →
    t.fault = none → t.accepts d .v128 = true → exec (.v16x8Load d mem addr) t = .next (t.retire d (.v128 v))) ∧
  (∀ (s t : State) d mem addr data v, s.wf = true → Holds kV128 s data v → exec (.v32x4Store mem addr data) s = .next t →
    t.fault = none → t.accepts d .v128 = true → exec (.v32x4Load d mem addr) t = .next (t.retire d (.v128 v))) ∧
  (∀ (s t : State) d mem addr data v, s.wf = true → Holds kV128 s data v → exec (.v64x2Store mem addr data) s = .next t →
    t.fault = none → t.accepts d .v128 = true → exec (.v64x2Load d mem addr) t = .next (t.retire d (.v128 v))) ∧
  (∀ (s t : State) d mem addr data v, s.wf = true → Holds kV128 s data v → exec (.v32x4Store1 mem addr data) s = .next t →
    t.fault = none → t.accepts d .v128 = true →
    ∃ w, exec (.v32x4Load1 d mem addr) t = .next (t.retire d (.v128 w)) ∧
      ∀ i < 4, lane s.params.laneMapping 32 w i = if i < 1 then lane s.params.laneMapping 32 v i else 0) ∧
  (∀ (s t : State) d mem addr data v, s.wf = true → Holds kV128 s data v → exec (.v32x4Store2 mem addr data) s = .next t →
    t.fault = none → t.accepts d .v128 = true →
    ∃ w, exec (.v32x4Load2 d mem addr) t = .next (t.retire d (.v128 w)) ∧
      ∀ i < 4, lane s.params.laneMapping 32 w i = if i < 2 then lane s.params.laneMapping 32 v i else 0) ∧
  (∀ (s t : State) d mem addr data v, s.wf = true → Holds kV128 s data v → exec (.v32x4Store3 mem addr data) s = .next t →
    t.fault = none → t.accepts d .v128 = true →
    ∃ w, exec (.v32x4Load3 d mem addr) t = .next (t.retire d (.v128 w)) ∧
      ∀ i < 4, lane s.params.laneMapping 32 w i = if i < 3 then lane s.params.laneMapping 32 v i else 0)

/-- Lane width does not matter to memory under the direct mappings (20_memory.md R74, R75, R78). The premise of canonical form is the model's representation (log entry 4). -/
def Obligations.DirectMappingWidths : Prop :=
  ∀ s : State, s.params.laneMapping ≠ .beHybrid →
    (∀ d mem addr,
      exec (.v16x8Load d mem addr) s = exec (.v8x16Load d mem addr) s ∧
      exec (.v32x4Load d mem addr) s = exec (.v8x16Load d mem addr) s ∧
      exec (.v64x2Load d mem addr) s = exec (.v8x16Load d mem addr) s) ∧
    (∀ mem addr data,
      exec (.v16x8Store mem addr data) s = exec (.v8x16Store mem addr data) s ∧
      exec (.v32x4Store mem addr data) s = exec (.v8x16Store mem addr data) s ∧
      exec (.v64x2Store mem addr data) s = exec (.v8x16Store mem addr data) s) ∧
    (∀ mem addr data v t, s.wf = true → Holds kV128 s data v → exec (.v64x2Store mem addr data) s = .next t → t.fault = none →
      ∀ j < 16, t.byte mem (addr + j) = some (lane s.params.laneMapping 8 v j))

/-- The algorithm of 40_fp_semantics.md R136, R137 computes what R135 asks for. These rules come to the spec from general knowledge (log entry 10). -/
def Obligations.RoundingIsCorrect : Prop :=
  ∀ rm (neg : Bool) (num den : Nat) (k : Int), num ≠ 0 → den ≠ 0 →
    binary32.Rounds rm ((if neg then -1 else 1) * ((num : ℝ) / den * (2 : ℝ) ^ k)) (binary32.roundRatio rm neg num den k) ∧
    binary64.Rounds rm ((if neg then -1 else 1) * ((num : ℝ) / den * (2 : ℝ) ^ k)) (binary64.roundRatio rm neg num den k)

/-- Laws F3 and F5 of 95_test_vectors.md (40_fp_semantics.md R141 to R148). The count of draws in the frame is the model's own (log entry 5); which operations flush is decision D10 (log entry 11). -/
def Obligations.ArithmeticLaneClasses : Prop :=
  (∀ rm, BinaryLanes 32 4 4 (fun d a b => .f32x4Add d a b rm) (fun p _ _ z => binary32.issignaling z = false ∧ (p.flushSubnormals = true → binary32.issubnormal z = false))) ∧
  (∀ rm, BinaryLanes 64 2 2 (fun d a b => .f64x2Add d a b rm) (fun p _ _ z => binary64.issignaling z = false ∧ (p.flushSubnormals = true → binary64.issubnormal z = false))) ∧
  (∀ rm, BinaryLanes 32 4 4 (fun d a b => .f32x4Sub d a b rm) (fun p _ _ z => binary32.issignaling z = false ∧ (p.flushSubnormals = true → binary32.issubnormal z = false))) ∧
  (∀ rm, BinaryLanes 64 2 2 (fun d a b => .f64x2Sub d a b rm) (fun p _ _ z => binary64.issignaling z = false ∧ (p.flushSubnormals = true → binary64.issubnormal z = false))) ∧
  (∀ rm, BinaryLanes 32 4 4 (fun d a b => .f32x4Mul d a b rm) (fun p _ _ z => binary32.issignaling z = false ∧ (p.flushSubnormals = true → binary32.issubnormal z = false))) ∧
  (∀ rm, BinaryLanes 64 2 2 (fun d a b => .f64x2Mul d a b rm) (fun p _ _ z => binary64.issignaling z = false ∧ (p.flushSubnormals = true → binary64.issubnormal z = false))) ∧
  (∀ rm, BinaryLanes 32 4 4 (fun d a b => .f32x4Div d a b rm) (fun p _ _ z => binary32.issignaling z = false ∧ (p.flushSubnormals = true → binary32.issubnormal z = false))) ∧
  (∀ rm, BinaryLanes 64 2 2 (fun d a b => .f64x2Div d a b rm) (fun p _ _ z => binary64.issignaling z = false ∧ (p.flushSubnormals = true → binary64.issubnormal z = false))) ∧
  (∀ rm, UnaryLanes 32 4 4 (fun d a => .f32x4Sqrt d a rm)
    (fun p _ z => binary32.issignaling z = false ∧ (p.flushSubnormals = true → binary32.issubnormal z = false))) ∧
  (∀ rm, UnaryLanes 64 2 2 (fun d a => .f64x2Sqrt d a rm)
    (fun p _ z => binary64.issignaling z = false ∧ (p.flushSubnormals = true → binary64.issubnormal z = false))) ∧
  BinaryLanes 32 4 4 .f32x4Min (fun _ _ _ z => binary32.issignaling z = false) ∧
  BinaryLanes 64 2 2 .f64x2Min (fun _ _ _ z => binary64.issignaling z = false) ∧
  BinaryLanes 32 4 4 .f32x4Max (fun _ _ _ z => binary32.issignaling z = false) ∧
  BinaryLanes 64 2 2 .f64x2Max (fun _ _ _ z => binary64.issignaling z = false)

/-- Reinterpretation at another lane width (10_state.md R44). -/
def Obligations.ReinterpretedBytes : Prop :=
  (∀ m v W n, (W = 16 ∨ W = 32 ∨ W = 64) → n < 128 / W →
    (lane m W v n).toNat = (Finset.range (W / 8)).sum fun k =>
      (lane m 8 v (W / 8 * n + k)).toNat * 2 ^ (8 * (if m = .beDirect then W / 8 - 1 - k else k))) ∧
  (∀ m, lane m 8 (ofLanes m [0x0123456789abcdef#64, 0x1122334455667788#64]) 0 = if m = .beDirect then 0x01 else 0xef)
end

