-- ==== Sys2Proof/Laws/State.lean ====
section
/-! SUPPORT. One lemma for each field and each update of the state, so that no proof unfolds a record update. -/

namespace Sys2Proof.Machine

@[simp] theorem State.raise_slots (s : State) (f : Fault) : (s.raise f).slots = s.slots := rfl
@[simp] theorem State.raise_pc (s : State) (f : Fault) : (s.raise f).pc = s.pc := rfl
@[simp] theorem State.raise_fault (s : State) (f : Fault) : (s.raise f).fault = some f := rfl
@[simp] theorem State.raise_mem (s : State) (f : Fault) : (s.raise f).mem = s.mem := rfl
@[simp] theorem State.raise_program (s : State) (f : Fault) : (s.raise f).program = s.program := rfl
@[simp] theorem State.raise_params (s : State) (f : Fault) : (s.raise f).params = s.params := rfl
@[simp] theorem State.raise_draws (s : State) (f : Fault) : (s.raise f).draws = s.draws := rfl

@[simp] theorem State.advance_slots (s : State) : (s.advance).slots = s.slots := rfl
@[simp] theorem State.advance_pc (s : State) : (s.advance).pc = s.pc + 1 := rfl
@[simp] theorem State.advance_fault (s : State) : (s.advance).fault = s.fault := rfl
@[simp] theorem State.advance_mem (s : State) : (s.advance).mem = s.mem := rfl
@[simp] theorem State.advance_program (s : State) : (s.advance).program = s.program := rfl
@[simp] theorem State.advance_params (s : State) : (s.advance).params = s.params := rfl
@[simp] theorem State.advance_draws (s : State) : (s.advance).draws = s.draws := rfl

@[simp] theorem State.drew_slots (s : State) (n : Nat) : (s.drew n).slots = s.slots := rfl
@[simp] theorem State.drew_pc (s : State) (n : Nat) : (s.drew n).pc = s.pc := rfl
@[simp] theorem State.drew_fault (s : State) (n : Nat) : (s.drew n).fault = s.fault := rfl
@[simp] theorem State.drew_mem (s : State) (n : Nat) : (s.drew n).mem = s.mem := rfl
@[simp] theorem State.drew_program (s : State) (n : Nat) : (s.drew n).program = s.program := rfl
@[simp] theorem State.drew_params (s : State) (n : Nat) : (s.drew n).params = s.params := rfl
@[simp] theorem State.drew_draws (s : State) (n : Nat) : (s.drew n).draws = s.draws + n := rfl

@[simp] theorem State.setBuffer_slots (s : State) (m : Ident) (b : Buffer) : (s.setBuffer m b).slots = s.slots := rfl
@[simp] theorem State.setBuffer_pc (s : State) (m : Ident) (b : Buffer) : (s.setBuffer m b).pc = s.pc := rfl
@[simp] theorem State.setBuffer_fault (s : State) (m : Ident) (b : Buffer) : (s.setBuffer m b).fault = s.fault := rfl
@[simp] theorem State.setBuffer_mem (s : State) (m : Ident) (b : Buffer) : (s.setBuffer m b).mem = Memory.update m b s.mem := rfl
@[simp] theorem State.setBuffer_program (s : State) (m : Ident) (b : Buffer) : (s.setBuffer m b).program = s.program := rfl
@[simp] theorem State.setBuffer_params (s : State) (m : Ident) (b : Buffer) : (s.setBuffer m b).params = s.params := rfl
@[simp] theorem State.setBuffer_draws (s : State) (m : Ident) (b : Buffer) : (s.setBuffer m b).draws = s.draws := rfl

@[simp] theorem State.retire_slots (s : State) (d : Ident) (v : Value) : (s.retire d v).slots = Slots.put d v s.slots := rfl
@[simp] theorem State.retire_pc (s : State) (d : Ident) (v : Value) : (s.retire d v).pc = s.pc + 1 := rfl
@[simp] theorem State.retire_fault (s : State) (d : Ident) (v : Value) : (s.retire d v).fault = s.fault := rfl
@[simp] theorem State.retire_mem (s : State) (d : Ident) (v : Value) : (s.retire d v).mem = s.mem := rfl
@[simp] theorem State.retire_program (s : State) (d : Ident) (v : Value) : (s.retire d v).program = s.program := rfl
@[simp] theorem State.retire_params (s : State) (d : Ident) (v : Value) : (s.retire d v).params = s.params := rfl
@[simp] theorem State.retire_draws (s : State) (d : Ident) (v : Value) : (s.retire d v).draws = s.draws := rfl

@[simp] theorem State.putAll_nil (s : State) : s.putAll [] = s := rfl

theorem State.putAll_cons (s : State) (d : Ident) (v : Value) (r : List (Ident × Value)) :
    s.putAll ((d, v) :: r) = ({ s with slots := Slots.put d v s.slots }).putAll r := rfl

/-- Writing slots changes no field but `slots`. -/
theorem State.putAll_rest (s : State) (ds : List (Ident × Value)) :
    (s.putAll ds).pc = s.pc ∧ (s.putAll ds).fault = s.fault ∧ (s.putAll ds).mem = s.mem ∧
      (s.putAll ds).program = s.program ∧ (s.putAll ds).params = s.params ∧ (s.putAll ds).draws = s.draws := by
  induction ds generalizing s with
  | nil => simp
  | cons e r ih => obtain ⟨d, v⟩ := e; simpa [State.putAll_cons] using ih { s with slots := Slots.put d v s.slots }

@[simp] theorem State.putAll_pc (s : State) (ds : List (Ident × Value)) : (s.putAll ds).pc = s.pc :=
  (State.putAll_rest s ds).1

@[simp] theorem State.putAll_fault (s : State) (ds : List (Ident × Value)) : (s.putAll ds).fault = s.fault :=
  (State.putAll_rest s ds).2.1

@[simp] theorem State.putAll_mem (s : State) (ds : List (Ident × Value)) : (s.putAll ds).mem = s.mem :=
  (State.putAll_rest s ds).2.2.1

@[simp] theorem State.putAll_program (s : State) (ds : List (Ident × Value)) : (s.putAll ds).program = s.program :=
  (State.putAll_rest s ds).2.2.2.1

@[simp] theorem State.putAll_params (s : State) (ds : List (Ident × Value)) : (s.putAll ds).params = s.params :=
  (State.putAll_rest s ds).2.2.2.2.1

@[simp] theorem State.putAll_draws (s : State) (ds : List (Ident × Value)) : (s.putAll ds).draws = s.draws :=
  (State.putAll_rest s ds).2.2.2.2.2

theorem State.slot_eq (s : State) (x : Ident) : s.slot x = Slots.find x s.slots := rfl

theorem State.buffer_eq (s : State) (m : Ident) : s.buffer m = Memory.find m s.mem := rfl

/-- A byte of memory is decided by the Buffers alone. -/
theorem State.byte_congr {s t : State} (h : t.mem = s.mem) (m : Ident) (a : Nat) : t.byte m a = s.byte m a := by
  unfold State.byte State.buffer; rw [h]

/-- A slot is decided by the slots alone. -/
theorem State.slot_congr {s t : State} (h : t.slots = s.slots) (x : Ident) : t.slot x = s.slot x := by
  unfold State.slot; rw [h]

@[simp] theorem State.launch_raise (s : State) (f : Fault) : (s.raise f).launch = s.launch := rfl

@[simp] theorem State.slot_raise (s : State) (f : Fault) (x : Ident) : (s.raise f).slot x = s.slot x := rfl

@[simp] theorem State.byte_raise (s : State) (f : Fault) (m : Ident) (a : Nat) : (s.raise f).byte m a = s.byte m a := rfl

end Sys2Proof.Machine
end

