-- ==== Sys2Proof/Laws/Lanes.lean ====
section
/-! SUPPORT. Lanes: what a lane of a vector made of lanes is, and that lanes decide the vector. -/

namespace Sys2Proof

/-! ### Lists of fixed length -/

@[simp] theorem Lanes.at_tabulate {α : Type} {n : Nat} (f : Nat → α) (i : Fin n) : (Lanes.tabulate n f).at i = f i.val := by
  simp [Lanes.tabulate, Lanes.at]

@[simp] theorem Lanes.at_map {α β : Type} {n : Nat} (f : α → β) (v : Lanes α n) (i : Fin n) : (v.map f).at i = f (v.at i) := by
  simp [Lanes.map, Lanes.at]

@[simp] theorem Lanes.at_zipWith {α β γ : Type} {n : Nat} (f : α → β → γ) (a : Lanes α n) (b : Lanes β n) (i : Fin n) :
    (Lanes.zipWith f a b).at i = f (a.at i) (b.at i) := by
  simp [Lanes.zipWith, Lanes.at]

@[simp] theorem Lanes.at_replicate {α : Type} {n : Nat} (x : α) (i : Fin n) : (Lanes.replicate n x).at i = x := by
  simp [Lanes.replicate, Lanes.at]

theorem Lanes.at_set {α : Type} {n : Nat} (v : Lanes α n) (i j : Fin n) (x : α) :
    (v.set i x).at j = if j = i then x else v.at j := by
  simp only [Lanes.set, Lanes.at, List.getElem_set, Fin.ext_iff]
  split_ifs with h1 h2 h2 <;> first | rfl | omega

theorem Lanes.getElem_toList {α : Type} {n : Nat} (v : Lanes α n) (i : Nat) (h : i < v.toList.length) :
    v.toList[i] = v.at ⟨i, by rw [← v.size]; exact h⟩ := rfl

theorem Lanes.ext_at {α : Type} {n : Nat} {a b : Lanes α n} (h : ∀ i, a.at i = b.at i) : a = b := by
  obtain ⟨la, ha⟩ := a
  obtain ⟨lb, hb⟩ := b
  congr
  apply List.ext_getElem (by rw [ha, hb])
  intro i h1 h2
  exact h ⟨i, by rw [← ha]; exact h1⟩

namespace Machine

/-! ### Orientation -/

@[simp] theorem orient_orient (m : LaneMapping) {W : Nat} (p : BitVec W) : orient m (orient m p) = p := by
  unfold orient
  split_ifs
  · rfl
  · exact BitVec.reverse_reverse_eq

@[simp] theorem orient_zero (m : LaneMapping) (W : Nat) : orient m 0#W = 0#W := by
  unfold orient
  split_ifs
  · rfl
  · ext i hi; simp [BitVec.getElem_reverse]

theorem orient_inj (m : LaneMapping) {W : Nat} {p q : BitVec W} (h : orient m p = orient m q) : p = q := by
  rw [← orient_orient m p, h, orient_orient]

/-! ### Joining and cutting -/

theorem joinNat_slice {W : Nat} (ps : List (BitVec W)) (n : Nat) :
    joinNat ps / 2 ^ (W * n) % 2 ^ W = (ps.getD n 0).toNat := by
  induction ps generalizing n with
  | nil => simp [joinNat]
  | cons p r ih =>
    have hp : p.toNat < 2 ^ W := p.isLt
    cases n with
    | zero =>
      simp only [joinNat, Nat.mul_zero, Nat.pow_zero, Nat.div_one, List.getD_cons_zero, Nat.add_mul_mod_self_left]
      exact Nat.mod_eq_of_lt hp
    | succ n =>
      rw [List.getD_cons_succ, ← ih n, joinNat, Nat.mul_succ, Nat.pow_add, Nat.mul_comm (2 ^ (W * n)), ← Nat.div_div_eq_div_mul,
        Nat.add_mul_div_left _ _ (Nat.two_pow_pos W), Nat.div_eq_of_lt hp, Nat.zero_add]

theorem extract_joinNat {W n : Nat} (ps : List (BitVec W)) (h : W * (n + 1) ≤ 128) :
    (BitVec.ofNat 128 (joinNat ps)).extractLsb' (W * n) W = ps.getD n 0 := by
  apply BitVec.eq_of_toNat_eq
  rw [← joinNat_slice, BitVec.extractLsb'_toNat, BitVec.toNat_ofNat, Nat.shiftRight_eq_div_pow]
  have h2 : W * n + W ≤ 128 := by rw [Nat.mul_succ] at h; exact h
  obtain ⟨c, hc⟩ := Nat.exists_eq_add_of_le h2
  conv_lhs => rw [hc, Nat.add_assoc, Nat.pow_add, Nat.mod_mul_right_div_self, Nat.pow_add, Nat.mod_mul_right_mod]

/-- A lane of a vector given by its lanes: the lane given, or zero past the end of the list (00_scope.md R11). -/
theorem lane_ofLanes (m : LaneMapping) {W n : Nat} (ps : List (BitVec W)) (h : W * (n + 1) ≤ 128) :
    lane m W (ofLanes m ps) n = ps.getD n 0 := by
  unfold lane ofLanes
  rw [extract_joinNat _ h]
  by_cases hn : n < ps.length
  · simp [List.getD, hn]
  · have : ps.length ≤ n := by omega
    simp [List.getD, this]

/-- A lane of a vector made lane by lane. -/
theorem lane_buildLanes (m : LaneMapping) {W n : Nat} (f : Nat → BitVec W) (hW : 0 < W) (h : W * (n + 1) ≤ 128) :
    lane m W (buildLanes m W f) n = f n := by
  unfold buildLanes
  rw [lane_ofLanes m _ h]
  have : n < 128 / W := (Nat.le_div_iff_mul_le hW).2 (by rw [Nat.mul_comm]; exact h)
  simp [List.getD, this]

theorem lane_lt {W n : Nat} (hW : 0 < W) (h : n < 128 / W) : W * (n + 1) ≤ 128 := by
  rw [Nat.mul_comm]; exact (Nat.le_div_iff_mul_le hW).1 h

@[simp] theorem lanes_length (m : LaneMapping) (W : Nat) (v : V128) : (lanes m W v).length = 128 / W := by simp [lanes]

@[simp] theorem lanes_getElem (m : LaneMapping) (W : Nat) (v : V128) (i : Nat) (h : i < (lanes m W v).length) :
    (lanes m W v)[i] = lane m W v i := by simp [lanes]

/-- Two vectors with the same lanes at one width are the same 128 bits. -/
theorem ext_lanes (m : LaneMapping) {W : Nat} (hW : 0 < W) (hd : W ∣ 128) {u v : V128}
    (h : ∀ i < 128 / W, lane m W u i = lane m W v i) : u = v := by
  apply BitVec.eq_of_getLsbD_eq
  intro k hk
  have hi : k / W < 128 / W := Nat.div_lt_div_of_lt_of_dvd hd hk
  have := orient_inj m (h (k / W) hi)
  have hm : k % W < W := Nat.mod_lt k hW
  have h1 := congrArg (fun p => p.getLsbD (k % W)) this
  simpa [BitVec.getLsbD_extractLsb', hm, Nat.div_add_mod] using h1

/-- A vector is made of its own lanes. -/
theorem ofLanes_lanes (m : LaneMapping) {W : Nat} (hW : 0 < W) (hd : W ∣ 128) (v : V128) : ofLanes m (lanes m W v) = v := by
  apply ext_lanes m hW hd
  intro i hi
  rw [lane_ofLanes m _ (lane_lt hW hi)]
  simp [List.getD, hi]

/-! ### The lane-wise helpers -/

theorem lane_lanewise1 (m : LaneMapping) {W n : Nat} (f : BitVec W → BitVec W) (a : V128) (hW : 0 < W)
    (h : W * (n + 1) ≤ 128) : lane m W (lanewise1 m W f a) n = f (lane m W a n) := lane_buildLanes m _ hW h

theorem lane_lanewise2 (m : LaneMapping) {W n : Nat} (f : BitVec W → BitVec W → BitVec W) (a b : V128) (hW : 0 < W)
    (h : W * (n + 1) ≤ 128) : lane m W (lanewise2 m W f a b) n = f (lane m W a n) (lane m W b n) := lane_buildLanes m _ hW h

theorem lane_lanewiseDraw1 (m : LaneMapping) {W n : Nat} (f : Nat → BitVec W → BitVec W) (k : Nat) (a : V128) (hW : 0 < W)
    (h : W * (n + 1) ≤ 128) : lane m W (lanewiseDraw1 m W f k a) n = f (k + n) (lane m W a n) := lane_buildLanes m _ hW h

theorem lane_lanewiseDraw2 (m : LaneMapping) {W n : Nat} (f : Nat → BitVec W → BitVec W → BitVec W) (k : Nat) (a b : V128)
    (hW : 0 < W) (h : W * (n + 1) ≤ 128) :
    lane m W (lanewiseDraw2 m W f k a b) n = f (k + n) (lane m W a n) (lane m W b n) := lane_buildLanes m _ hW h

/-- A lane after one lane is replaced. -/
theorem lane_setlane (m : LaneMapping) {W : Nat} (v : V128) (n j : Nat) (p : BitVec W) (hW : 0 < W)
    (h : W * (j + 1) ≤ 128) : lane m W (setlane m v n p) j = if j = n then p else lane m W v j := by
  have hj : j < 128 / W := (Nat.le_div_iff_mul_le hW).2 (by rw [Nat.mul_comm]; exact h)
  unfold setlane
  rw [lane_ofLanes m _ h]
  by_cases he : j = n
  · subst he; simp [List.getD, hj]
  · rw [if_neg he]; simp [List.getD, hj, Ne.symm he]

/-- A lane of a selection (42_lane_access.md R232). -/
theorem lane_selectLanes (m : LaneMapping) (W : Nat) {L : Nat} (c : Lanes Bool L) (t f : V128) (i : Fin L) (hW : 0 < W)
    (h : W * (i.val + 1) ≤ 128) :
    lane m W (selectLanes m W c t f) i.val = if c.at i then lane m W t i.val else lane m W f i.val := by
  have hi : i.val < 128 / W := (Nat.le_div_iff_mul_le hW).2 (by rw [Nat.mul_comm]; exact h)
  have hc : i.val < c.toList.length := by rw [c.size]; exact i.isLt
  unfold selectLanes
  rw [lane_ofLanes m _ h]
  simp only [List.getD, List.getElem?_zipWith, List.getElem?_eq_getElem hc]
  simp [lanes, hi, Lanes.getElem_toList]

theorem lane_swizzleLanes (m : LaneMapping) (W : Nat) {L : Nat} (a : V128) (c : Lanes (Fin L) L) (i : Fin L)
    (h : W * (i.val + 1) ≤ 128) : lane m W (swizzleLanes m W a c) i.val = lane m W a (c.at i).val := by
  have hc : i.val < c.toList.length := by rw [c.size]; exact i.isLt
  unfold swizzleLanes
  rw [lane_ofLanes m _ h]
  simp [List.getD, hc, Lanes.getElem_toList]

theorem lane_shuffleLanes (m : LaneMapping) (W L : Nat) {N : Nat} (a b : V128) (c : Lanes (Fin N) L) (i : Fin L)
    (h : W * (i.val + 1) ≤ 128) :
    lane m W (shuffleLanes m W L a b c) i.val =
      if (c.at i).val < L then lane m W a (c.at i).val else lane m W b ((c.at i).val - L) := by
  have hc : i.val < c.toList.length := by rw [c.size]; exact i.isLt
  unfold shuffleLanes
  rw [lane_ofLanes m _ h]
  simp [List.getD, hc, Lanes.getElem_toList]
  by_cases hlt : (c.at i).val < L
  · rw [if_pos hlt]; exact if_pos hlt
  · rw [if_neg hlt]; exact if_neg hlt

end Machine

end Sys2Proof
end

