-- ==== Sys2Proof/Laws/Slots.lean ====
section
/-! SUPPORT. The order of names, and slots: what a slot reads after a write, and the canonical form of the slot list. -/

namespace Sys2Proof

theorem Ident.before_irrefl (x : Ident) : x.before x = false := by
  induction x with
  | nil => rfl
  | cons c r ih => simp [Ident.before, ih]

theorem Ident.before_trans {x y z : Ident} (h1 : x.before y = true) (h2 : y.before z = true) : x.before z = true := by
  induction x generalizing y z with
  | nil =>
    cases y with
    | nil => simp [Ident.before] at h1
    | cons b bs =>
      cases z with
      | nil => simp [Ident.before] at h2
      | cons c cs => rfl
  | cons a as ih =>
    cases y with
    | nil => simp [Ident.before] at h1
    | cons b bs =>
      cases z with
      | nil => simp [Ident.before] at h2
      | cons c cs =>
        simp only [Ident.before] at h1 h2 ⊢
        split_ifs at h1 h2 ⊢ <;> first | rfl | omega | exact ih h1 h2

theorem charToNat_inj {a b : Char} (h : a.toNat = b.toNat) : a = b := by
  apply Char.ext; exact UInt32.toNat.inj h

theorem Ident.before_total {x y : Ident} (h : x ≠ y) (h' : x.before y = false) : y.before x = true := by
  induction x generalizing y with
  | nil =>
    cases y with
    | nil => exact absurd rfl h
    | cons b bs => simp [Ident.before] at h'
  | cons a as ih =>
    cases y with
    | nil => rfl
    | cons b bs =>
      simp only [Ident.before] at h' ⊢
      split_ifs at h' ⊢ with h1 h2 h3 <;> try first | rfl | omega
      have hab : a = b := charToNat_inj (by omega)
      subst hab
      exact ih (fun e => h (by rw [e])) h'

namespace Machine

/-- The slot written reads the value written. -/
@[simp] theorem Slots.find_put_same (x : Ident) (v : Value) (l : List (Ident × Value)) :
    Slots.find x (Slots.put x v l) = some v := by
  induction l with
  | nil => simp [Slots.put, Slots.find]
  | cons e r ih =>
    obtain ⟨y, w⟩ := e
    unfold Slots.put
    split_ifs with h1 h2 <;> simp [Slots.find, ih, h1]

/-- Every other slot reads as before (10_state.md R46: slots do not alias). -/
theorem Slots.find_put_other {x y : Ident} (h : y ≠ x) (v : Value) (l : List (Ident × Value)) :
    Slots.find y (Slots.put x v l) = Slots.find y l := by
  induction l with
  | nil => simp [Slots.put, Slots.find, Ne.symm h]
  | cons e r ih =>
    obtain ⟨z, w⟩ := e
    unfold Slots.put
    split_ifs with h1 h2
    · subst h1; simp [Slots.find, Ne.symm h]
    · simp [Slots.find, Ne.symm h]
    · simp [Slots.find, ih]

theorem Slots.find_put (x y : Ident) (v : Value) (l : List (Ident × Value)) :
    Slots.find y (Slots.put x v l) = if y = x then some v else Slots.find y l := by
  split_ifs with h
  · subst h; simp
  · exact Slots.find_put_other h v l

theorem namesRising_cons {x : Ident} {l : List Ident} :
    namesRising (x :: l) = true ↔ (∀ y ∈ l.head?, x.before y = true) ∧ namesRising l = true := by
  cases l with
  | nil => simp [namesRising]
  | cons y r => simp [namesRising]

theorem Slots.head_put (x : Ident) (v : Value) (l : List (Ident × Value)) :
    ∀ y ∈ ((Slots.put x v l).map Prod.fst).head?, y = x ∨ y ∈ (l.map Prod.fst).head? := by
  cases l with
  | nil => simp [Slots.put]
  | cons e r =>
    obtain ⟨z, w⟩ := e
    unfold Slots.put
    split_ifs with h1 h2 <;> simp

/-- A write of a slot keeps the canonical form of the slot list. -/
theorem Slots.rising_put (x : Ident) (v : Value) {l : List (Ident × Value)}
    (h : namesRising (l.map Prod.fst) = true) : namesRising ((Slots.put x v l).map Prod.fst) = true := by
  induction l with
  | nil => simp [Slots.put, namesRising]
  | cons e r ih =>
    obtain ⟨z, w⟩ := e
    rw [List.map_cons, namesRising_cons] at h
    unfold Slots.put
    split_ifs with h1 h2
    · subst h1; rw [List.map_cons, namesRising_cons]; exact h
    · simp only [List.map_cons]
      rw [namesRising_cons, namesRising_cons]
      exact ⟨by simpa using h2, h⟩
    · rw [List.map_cons, namesRising_cons]
      refine ⟨fun y hy => ?_, ih h.2⟩
      rcases Slots.head_put x v r y hy with rfl | hy'
      · exact Ident.before_total (Ne.symm h1) (by simpa using h2)
      · exact h.1 y hy'

/-- What a slot reads after several writes, none of two to one name. -/
theorem State.slot_putAll (s : State) (ds : List (Ident × Value)) (x : Ident) (h : x ∉ ds.map Prod.fst) :
    (s.putAll ds).slot x = s.slot x := by
  induction ds generalizing s with
  | nil => rfl
  | cons e r ih =>
    obtain ⟨d, v⟩ := e
    simp only [List.map_cons, List.mem_cons, not_or] at h
    rw [State.putAll_cons, ih _ h.2]
    exact Slots.find_put_other h.1 v s.slots

@[simp] theorem State.slot_retire (s : State) (d x : Ident) (v : Value) :
    (s.retire d v).slot x = if x = d then some v else s.slot x := Slots.find_put d x v s.slots

@[simp] theorem State.byte_retire (s : State) (d : Ident) (v : Value) (m : Ident) (a : Nat) :
    (s.retire d v).byte m a = s.byte m a := rfl

@[simp] theorem State.slot_drew (s : State) (n : Nat) (x : Ident) : (s.drew n).slot x = s.slot x := rfl

@[simp] theorem State.slot_advance (s : State) (x : Ident) : s.advance.slot x = s.slot x := rfl

/-- Writing slots keeps the canonical form of the slot list. -/
theorem State.rising_putAll {s : State} (ds : List (Ident × Value)) (h : namesRising (s.slots.map Prod.fst) = true) :
    namesRising ((s.putAll ds).slots.map Prod.fst) = true := by
  induction ds generalizing s with
  | nil => exact h
  | cons e r ih =>
    obtain ⟨d, v⟩ := e
    rw [State.putAll_cons]
    exact ih (Slots.rising_put d v h)

end Machine

end Sys2Proof
end

