-- ==== Sys2Proof/Laws/Memory.lean ====
section
/-! SUPPORT. Bytes of a Buffer after a write, the canonical form of memory, and the Buffers after a replacement. -/

namespace Sys2Proof.Machine

/-! ### Cells -/

/-- Addresses strictly rising from `k` on, every address below `len`, no byte an unlisted address would read as: the
canonical form with a lower bound, which is what inductions over cells need. -/
def Cells.wfFrom (len : Nat) : Nat → List Host.Cell → Prop
  | _, [] => True
  | k, (j, c) :: r => k ≤ j ∧ j < len ∧ c ≠ unlistedByte ∧ Cells.wfFrom len (j + 1) r

theorem Cells.wf_cons_iff (len j : Nat) (c : Byte) (r : List Host.Cell) :
    Cells.wf len ((j, c) :: r) = true ↔ j < len ∧ c ≠ unlistedByte ∧ Cells.wfFrom len (j + 1) r := by
  induction r generalizing j c with
  | nil => simp [Cells.wf, Cells.wfFrom]
  | cons e r ih =>
    obtain ⟨i, b⟩ := e
    simp only [Cells.wf, Cells.wfFrom, Bool.and_eq_true, decide_eq_true_eq, bne_iff_ne, ih]
    constructor
    · rintro ⟨⟨h1, h2⟩, h3, h4, h5⟩; exact ⟨by omega, h2, h1, h3, h4, h5⟩
    · rintro ⟨_, h2, h1, h3, h4, h5⟩; exact ⟨⟨h1, h2⟩, h3, h4, h5⟩

theorem Cells.wf_iff (len : Nat) (l : List Host.Cell) : Cells.wf len l = true ↔ Cells.wfFrom len 0 l := by
  cases l with
  | nil => simp [Cells.wf, Cells.wfFrom]
  | cons e r => rw [Cells.wf_cons_iff]; simp [Cells.wfFrom]

theorem Cells.wfFrom_put {len k a : Nat} {b : Byte} {l : List Host.Cell} (h : Cells.wfFrom len k l) (hk : k ≤ a)
    (ha : a < len) : Cells.wfFrom len k (Cells.put a b l) := by
  induction l generalizing k with
  | nil =>
    unfold Cells.put
    split_ifs with hb
    · trivial
    · exact ⟨hk, ha, hb, trivial⟩
  | cons e r ih =>
    obtain ⟨j, c⟩ := e
    obtain ⟨h1, h2, h3, h4⟩ := h
    unfold Cells.put
    split_ifs with hj he hb hb
    · exact ⟨h1, h2, h3, ih h4 hj⟩
    · subst he
      cases r with
      | nil => trivial
      | cons e' r' => exact ⟨by have := h4.1; omega, h4.2⟩
    · subst he; exact ⟨h1, h2, hb, h4⟩
    · exact ⟨h1, h2, h3, h4⟩
    · exact ⟨hk, ha, hb, by omega, h2, h3, h4⟩

theorem Cells.get_put_same {k len : Nat} (a : Nat) (b : Byte) {l : List Host.Cell} (h : Cells.wfFrom len k l) :
    Cells.get a (Cells.put a b l) = b := by
  have below : ∀ (l : List Host.Cell) (k : Nat), Cells.wfFrom len k l → a < k → Cells.get a l = unlistedByte := by
    intro l
    induction l with
    | nil => intros; rfl
    | cons e r ih =>
      intro k hl hk
      obtain ⟨j, c⟩ := e
      unfold Cells.get
      rw [if_neg (by have := hl.1; omega)]
      exact ih (j + 1) hl.2.2.2 (by have := hl.1; omega)
  induction l generalizing k with
  | nil => unfold Cells.put; split_ifs with hb <;> simp [Cells.get, hb]
  | cons e r ih =>
    obtain ⟨j, c⟩ := e
    obtain ⟨h1, h2, h3, h4⟩ := h
    unfold Cells.put
    split_ifs with hj he hb hb
    · unfold Cells.get; rw [if_neg (by omega)]; exact ih h4
    · rw [hb]; exact below r (j + 1) h4 (by omega)
    · simp [Cells.get]
    · rw [hb]; unfold Cells.get; rw [if_neg (by omega)]; exact below r (j + 1) h4 (by omega)
    · simp [Cells.get]

/-- A byte not written reads as before; this holds of any list of cells. -/
theorem Cells.get_put_other {a a' : Nat} (h : a' ≠ a) (b : Byte) (l : List Host.Cell) :
    Cells.get a' (Cells.put a b l) = Cells.get a' l := by
  induction l with
  | nil => unfold Cells.put; split_ifs <;> simp [Cells.get, Ne.symm h]
  | cons e r ih =>
    obtain ⟨j, c⟩ := e
    unfold Cells.put
    split_ifs with hj he hb hb
    · simp only [Cells.get, ih]
    · subst he; simp [Cells.get, Ne.symm h]
    · subst he; simp [Cells.get, Ne.symm h]
    · rfl
    · simp [Cells.get, Ne.symm h]

/-! ### Buffers -/

@[simp] theorem Buffer.len_setByte (b : Buffer) (a : Nat) (v : Byte) : (b.setByte a v).len = b.len := by
  unfold Buffer.setByte; split_ifs <;> rfl

@[simp] theorem Buffer.len_setBytes (b : Buffer) (a : Nat) (vs : List Byte) : (b.setBytes a vs).len = b.len := by
  induction vs generalizing b a with
  | nil => rfl
  | cons v vs ih => simp [Buffer.setBytes, ih]

theorem Buffer.wf_setByte {b : Buffer} (h : b.wf = true) (a : Nat) (v : Byte) : (b.setByte a v).wf = true := by
  unfold Buffer.setByte
  split_ifs with ha
  · unfold Buffer.wf at h ⊢
    rw [Cells.wf_iff] at h ⊢
    exact Cells.wfFrom_put h (Nat.zero_le a) ha
  · exact h

theorem Buffer.wf_setBytes {b : Buffer} (h : b.wf = true) (a : Nat) (vs : List Byte) : (b.setBytes a vs).wf = true := by
  induction vs generalizing b a with
  | nil => exact h
  | cons v vs ih => exact ih (Buffer.wf_setByte h a v) (a + 1)

theorem Buffer.byte_setByte_other {b : Buffer} {a a' : Nat} (h : a' ≠ a) (v : Byte) :
    (b.setByte a v).byte a' = b.byte a' := by
  unfold Buffer.setByte
  split_ifs with ha
  · exact Cells.get_put_other h v b.cells
  · rfl

theorem Buffer.byte_setByte_same {b : Buffer} (h : b.wf = true) {a : Nat} (ha : a < b.len) (v : Byte) :
    (b.setByte a v).byte a = v := by
  unfold Buffer.setByte
  rw [if_pos ha]
  exact Cells.get_put_same a v ((Cells.wf_iff _ _).1 h)

theorem Buffer.byte_setBytes_other {b : Buffer} {a a' : Nat} (vs : List Byte) (h : a' < a ∨ a + vs.length ≤ a') :
    (b.setBytes a vs).byte a' = b.byte a' := by
  induction vs generalizing b a with
  | nil => rfl
  | cons v vs ih =>
    simp only [List.length_cons] at h
    rw [Buffer.setBytes, ih (by omega)]
    exact Buffer.byte_setByte_other (by omega) v

theorem Buffer.byte_setBytes_same {b : Buffer} (h : b.wf = true) {a : Nat} (vs : List Byte) (ha : a + vs.length ≤ b.len)
    {j : Nat} (hj : j < vs.length) : (b.setBytes a vs).byte (a + j) = vs[j] := by
  induction vs generalizing b a j with
  | nil => simp at hj
  | cons v vs ih =>
    simp only [List.length_cons] at ha hj
    rw [Buffer.setBytes]
    cases j with
    | zero =>
      rw [Buffer.byte_setBytes_other vs (by omega)]
      exact Buffer.byte_setByte_same h (by omega) v
    | succ j =>
      have := ih (Buffer.wf_setByte h a v) (a := a + 1) (j := j) (by simp; omega) (by omega)
      rw [List.getElem_cons_succ, ← this]; congr 1; omega

/-! ### Buffers by name -/

@[simp] theorem Memory.find_update_same (m : Ident) (b : Buffer) (l : List (Ident × Buffer)) :
    Memory.find m (Memory.update m b l) = (Memory.find m l).map fun _ => b := by
  induction l with
  | nil => rfl
  | cons e r ih =>
    obtain ⟨y, c⟩ := e
    unfold Memory.update
    split_ifs with h <;> simp [Memory.find, h, ih]

theorem Memory.find_update_other {m m' : Ident} (h : m' ≠ m) (b : Buffer) (l : List (Ident × Buffer)) :
    Memory.find m' (Memory.update m b l) = Memory.find m' l := by
  induction l with
  | nil => rfl
  | cons e r ih =>
    obtain ⟨y, c⟩ := e
    unfold Memory.update
    split_ifs with h1
    · subst h1; simp [Memory.find, Ne.symm h]
    · simp only [Memory.find, ih]

/-- The names of the Buffers never change. -/
@[simp] theorem Memory.names_update (m : Ident) (b : Buffer) (l : List (Ident × Buffer)) :
    (Memory.update m b l).map Prod.fst = l.map Prod.fst := by
  induction l with
  | nil => rfl
  | cons e r ih =>
    obtain ⟨y, c⟩ := e
    unfold Memory.update
    split_ifs <;> simp [ih]

theorem Memory.mem_of_find {m : Ident} {b : Buffer} {l : List (Ident × Buffer)} (h : Memory.find m l = some b) :
    (m, b) ∈ l := by
  induction l with
  | nil => simp [Memory.find] at h
  | cons e r ih =>
    obtain ⟨y, c⟩ := e
    unfold Memory.find at h
    split_ifs at h with h1
    · subst h1; simp_all
    · exact List.mem_cons_of_mem _ (ih h)

theorem Memory.wf_find {m : Ident} {b : Buffer} {l : List (Ident × Buffer)} (hl : Memory.wf l = true)
    (h : Memory.find m l = some b) : b.wf = true := by
  simp only [Memory.wf, Bool.and_eq_true, List.all_eq_true] at hl
  exact hl.2 _ (Memory.mem_of_find h)

/-- Replacing a Buffer by a canonical one keeps the canonical form of the Buffers. -/
theorem Memory.wf_update {l : List (Ident × Buffer)} (hl : Memory.wf l = true) (m : Ident) {b : Buffer}
    (hb : b.wf = true) : Memory.wf (Memory.update m b l) = true := by
  simp only [Memory.wf, Bool.and_eq_true, Memory.names_update] at hl ⊢
  refine ⟨hl.1, ?_⟩
  have := hl.2
  clear hl
  induction l with
  | nil => rfl
  | cons e r ih =>
    obtain ⟨y, c⟩ := e
    simp only [List.all_cons, Bool.and_eq_true] at this
    unfold Memory.update
    split_ifs <;> simp [hb, this.1, this.2, ih]

/-- A launch Buffer added by a test keeps the canonical form. -/
theorem Memory.head_insert (m : Ident) (b : Buffer) (l : List (Ident × Buffer)) :
    ∀ y ∈ ((Memory.insert m b l).map Prod.fst).head?, y = m ∨ y ∈ (l.map Prod.fst).head? := by
  cases l with
  | nil => simp [Memory.insert]
  | cons e r =>
    obtain ⟨z, w⟩ := e
    unfold Memory.insert
    split_ifs with h1 h2 <;> simp

theorem Memory.wf_insert {l : List (Ident × Buffer)} (hl : Memory.wf l = true) (m : Ident) {b : Buffer}
    (hb : b.wf = true) : Memory.wf (Memory.insert m b l) = true := by
  simp only [Memory.wf, Bool.and_eq_true] at hl ⊢
  obtain ⟨h1, h2⟩ := hl
  induction l with
  | nil => simp [Memory.insert, namesRising, hb]
  | cons e r ih =>
    obtain ⟨z, w⟩ := e
    simp only [List.all_cons, Bool.and_eq_true, List.map_cons] at h1 h2
    unfold Memory.insert
    split_ifs with h3 h4
    · simp [h1, h2.1, h2.2]
    · refine ⟨?_, by simp [hb, h2.1, h2.2]⟩
      simp only [List.map_cons]
      rw [namesRising_cons]
      exact ⟨by simpa using h4, h1⟩
    · rw [namesRising_cons] at h1
      obtain ⟨i1, i2⟩ := ih h1.2 h2.2
      refine ⟨?_, by simp [h2.1, i2]⟩
      rw [List.map_cons, namesRising_cons]
      refine ⟨fun y hy => ?_, i1⟩
      rcases Memory.head_insert m b r y hy with rfl | hy'
      · exact Ident.before_total (Ne.symm h3) (by simpa using h4)
      · exact h1.1 y hy'

theorem State.byte_eq_some {s : State} {m : Ident} {b : Buffer} (h : s.buffer m = some b) {a : Nat} (ha : a < b.len) :
    s.byte m a = some (b.byte a) := by
  unfold State.byte; rw [h]; simp [ha]

/-- A byte of the Buffer replaced. -/
theorem State.byte_setBuffer_same {s : State} {m : Ident} {b b' : Buffer} (h : s.buffer m = some b) (a : Nat) :
    (s.setBuffer m b').byte m a = if a < b'.len then some (b'.byte a) else none := by
  have : (s.setBuffer m b').buffer m = some b' := by
    rw [State.buffer_eq, State.setBuffer_mem, Memory.find_update_same, ← State.buffer_eq, h]; rfl
  unfold State.byte; rw [this]

/-- A byte of any other Buffer. -/
theorem State.byte_setBuffer_other {s : State} {m m' : Ident} (h : m' ≠ m) (b : Buffer) (a : Nat) :
    (s.setBuffer m b).byte m' a = s.byte m' a := by
  have : (s.setBuffer m b).buffer m' = s.buffer m' := by
    rw [State.buffer_eq, State.setBuffer_mem, Memory.find_update_other h, ← State.buffer_eq]
  unfold State.byte; rw [this]

/-- The memory of the state after reset has the canonical form. -/
theorem State.reset_mem_wf : Memory.wf State.reset.mem = true := by decide

end Sys2Proof.Machine
end

