-- ==== Sys2Proof/Laws/Bytes.lean ====
section
/-! SUPPORT. Byte order: what the bytes of a pattern are, what a pattern read from bytes is, and reads after writes. -/

namespace Sys2Proof.Machine

/-- The significance of byte `j` of `n` bytes in the native order. -/
def byteRank (m : LaneMapping) (n j : Nat) : Nat := if littleEndian m then j else n - 1 - j

@[simp] theorem bytesOfNat_length (n p : Nat) : (bytesOfNat n p).length = n := by
  induction n generalizing p with
  | zero => rfl
  | succ n ih => simp [bytesOfNat, ih]

theorem bytesOfNat_getElem (n p k : Nat) (h : k < (bytesOfNat n p).length) :
    (bytesOfNat n p)[k] = BitVec.ofNat 8 (p / 256 ^ k) := by
  induction n generalizing p k with
  | zero => simp [bytesOfNat] at h
  | succ n ih =>
    cases k with
    | zero => simp [bytesOfNat]
    | succ k =>
      simp only [bytesOfNat, List.getElem_cons_succ]
      rw [ih, Nat.pow_succ', Nat.div_div_eq_div_mul]

theorem natOfBytes_lt (l : List Byte) : natOfBytes l < 256 ^ l.length := by
  induction l with
  | nil => simp [natOfBytes]
  | cons b r ih => simp only [natOfBytes, List.length_cons, Nat.pow_succ]; have := b.isLt; omega

theorem natOfBytes_eq_sum (l : List Byte) :
    natOfBytes l = (Finset.range l.length).sum fun k => (l.getD k 0).toNat * 2 ^ (8 * k) := by
  induction l with
  | nil => rfl
  | cons b r ih =>
    rw [natOfBytes, ih, List.length_cons, Finset.sum_range_succ', Finset.mul_sum]
    rw [Nat.add_comm]
    congr 1
    · apply Finset.sum_congr rfl
      intro k _
      rw [List.getD_cons_succ, show 8 * (k + 1) = 8 * k + 8 by ring, Nat.pow_add]; ring
    · simp

theorem natOfBytes_bytesOfNat (n p : Nat) : natOfBytes (bytesOfNat n p) = p % 256 ^ n := by
  induction n generalizing p with
  | zero => simp [bytesOfNat, natOfBytes, Nat.mod_one]
  | succ n ih =>
    have h := Nat.mod_mul (a := 256) (b := 256 ^ n) (x := p)
    rw [bytesOfNat, natOfBytes, ih, BitVec.toNat_ofNat, Nat.pow_succ' (m := 256), h]

/-- The bytes written for a pattern, in the order of their addresses. -/
def patternBytes (m : LaneMapping) {W : Nat} (p : BitVec W) : List Byte :=
  if littleEndian m then bytesOfNat (W / 8) p.toNat else (bytesOfNat (W / 8) p.toNat).reverse

theorem memWrite_eq (m : LaneMapping) (b : Buffer) (addr : Nat) {W : Nat} (p : BitVec W) :
    memWrite m b addr p = b.setBytes addr (patternBytes m p) := rfl

@[simp] theorem patternBytes_length (m : LaneMapping) {W : Nat} (p : BitVec W) : (patternBytes m p).length = W / 8 := by
  unfold patternBytes; split_ifs <;> simp

theorem patternBytes_getElem (m : LaneMapping) {W : Nat} (p : BitVec W) (j : Nat) (h : j < (patternBytes m p).length) :
    (patternBytes m p)[j] = p.extractLsb' (8 * byteRank m (W / 8) j) 8 := by
  have hx : ∀ k, BitVec.ofNat 8 (p.toNat / 256 ^ k) = p.extractLsb' (8 * k) 8 := by
    intro k
    apply BitVec.eq_of_toNat_eq
    rw [BitVec.toNat_ofNat, BitVec.extractLsb'_toNat, Nat.shiftRight_eq_div_pow, Nat.pow_mul]
  have hj : j < W / 8 := by simpa using h
  unfold patternBytes byteRank at *
  split_ifs at h ⊢ with hm
  · rw [bytesOfNat_getElem, hx]
  · rw [List.getElem_reverse, bytesOfNat_getElem, hx]; simp

@[simp] theorem memWrite_len (m : LaneMapping) (b : Buffer) (addr : Nat) {W : Nat} (p : BitVec W) :
    (memWrite m b addr p).len = b.len := by rw [memWrite_eq]; simp

theorem memWrite_wf (m : LaneMapping) {b : Buffer} (h : b.wf = true) (addr : Nat) {W : Nat} (p : BitVec W) :
    (memWrite m b addr p).wf = true := by rw [memWrite_eq]; exact Buffer.wf_setBytes h _ _

/-- `MemWrite` changes no byte outside its range (20_memory.md R72). -/
theorem memWrite_byte_other (m : LaneMapping) (b : Buffer) {addr a : Nat} {W : Nat} (p : BitVec W)
    (h : a < addr ∨ addr + W / 8 ≤ a) : (memWrite m b addr p).byte a = b.byte a := by
  rw [memWrite_eq]; exact Buffer.byte_setBytes_other _ (by simpa using h)

/-- The bytes `MemWrite` sets (R72). -/
theorem memWrite_byte_same (m : LaneMapping) {b : Buffer} (hb : b.wf = true) {addr j : Nat} {W : Nat} (p : BitVec W)
    (h : addr + W / 8 ≤ b.len) (hj : j < W / 8) :
    (memWrite m b addr p).byte (addr + j) = p.extractLsb' (8 * byteRank m (W / 8) j) 8 := by
  rw [memWrite_eq, Buffer.byte_setBytes_same hb _ (by simpa using h) (by simpa using hj), patternBytes_getElem]

/-- The pattern `MemRead` gives, as the sum of R71. -/
theorem memRead_toNat (m : LaneMapping) (b : Buffer) (addr W : Nat) (hW : 8 ∣ W) :
    (memRead m b addr W).toNat =
      (Finset.range (W / 8)).sum fun j => (b.byte (addr + j)).toNat * 2 ^ (8 * byteRank m (W / 8) j) := by
  obtain ⟨n, rfl⟩ := hW
  have hn : 8 * n / 8 = n := by omega
  have hlt : ∀ l : List Byte, l.length = n → natOfBytes l % 2 ^ (8 * n) = natOfBytes l := by
    intro l hl
    apply Nat.mod_eq_of_lt
    have := natOfBytes_lt l
    rw [hl] at this
    rwa [Nat.pow_mul]
  unfold memRead
  simp only [BitVec.toNat_ofNat, hn]
  unfold byteRank
  split_ifs with hm
  · rw [hlt _ (by simp), natOfBytes_eq_sum]
    simp only [List.length_map, List.length_range]
    apply Finset.sum_congr rfl
    intro k hk
    have : k < n := Finset.mem_range.1 hk
    simp [List.getD, this]
  · rw [hlt _ (by simp), natOfBytes_eq_sum]
    simp only [List.length_reverse, List.length_map, List.length_range]
    rw [← Finset.sum_range_reflect]
    apply Finset.sum_congr rfl
    intro k hk
    have hk' : k < n := Finset.mem_range.1 hk
    have h2 : n - 1 - k < n := by omega
    have h3 : n - 1 - (n - 1 - k) = k := by omega
    simp [List.getD, h2, h3]

/-- Reading back a pattern just written gives it (R72). -/
theorem memRead_memWrite (m : LaneMapping) {b : Buffer} (hb : b.wf = true) {addr W : Nat} (p : BitVec W) (hW : 8 ∣ W)
    (h : addr + W / 8 ≤ b.len) : memRead m (memWrite m b addr p) addr W = p := by
  obtain ⟨n, rfl⟩ := hW
  have hn : 8 * n / 8 = n := by omega
  have hbytes : (List.range n).map (fun k => (memWrite m b addr p).byte (addr + k)) = patternBytes m p := by
    apply List.ext_getElem (by simp [hn])
    intro i h1 h2
    rw [List.getElem_map, List.getElem_range, memWrite_eq,
      Buffer.byte_setBytes_same hb _ (by simpa using h) (by simpa using h2)]
  have hp : p.toNat % 256 ^ n = p.toNat := by
    apply Nat.mod_eq_of_lt; have := p.isLt; rwa [Nat.pow_mul] at this
  unfold memRead
  rw [hn]
  simp only [hbytes]
  apply BitVec.eq_of_toNat_eq
  unfold patternBytes
  split_ifs with hm <;> simp [natOfBytes_bytesOfNat, hn, hp]

/-! ### All the lanes of a store -/

@[simp] theorem storeLanes_len (m : LaneMapping) {W : Nat} (b : Buffer) (addr : Nat) (ps : List (BitVec W)) :
    (storeLanes m b addr ps).len = b.len := by
  induction ps generalizing b addr with
  | nil => rfl
  | cons p r ih => simp [storeLanes, ih]

theorem storeLanes_wf (m : LaneMapping) {W : Nat} {b : Buffer} (h : b.wf = true) (addr : Nat) (ps : List (BitVec W)) :
    (storeLanes m b addr ps).wf = true := by
  induction ps generalizing b addr with
  | nil => exact h
  | cons p r ih => exact ih (memWrite_wf m h addr p) _

/-- A store changes no byte outside its range (20_memory.md R82). -/
theorem storeLanes_byte_other (m : LaneMapping) {W : Nat} (b : Buffer) {addr a : Nat} (ps : List (BitVec W))
    (h : a < addr ∨ addr + ps.length * (W / 8) ≤ a) : (storeLanes m b addr ps).byte a = b.byte a := by
  induction ps generalizing b addr with
  | nil => rfl
  | cons p r ih =>
    simp only [List.length_cons, Nat.succ_mul] at h
    rw [storeLanes, ih _ (by omega), memWrite_byte_other m b p (by omega)]

/-- The bytes a store sets: byte `j` of lane `i` (20_memory.md R72, R73). -/
theorem storeLanes_byte_same (m : LaneMapping) {W : Nat} {b : Buffer} (hb : b.wf = true) {addr : Nat}
    (ps : List (BitVec W)) (h : addr + ps.length * (W / 8) ≤ b.len) {i j : Nat} (hi : i < ps.length) (hj : j < W / 8) :
    (storeLanes m b addr ps).byte (addr + i * (W / 8) + j) = ps[i].extractLsb' (8 * byteRank m (W / 8) j) 8 := by
  induction ps generalizing b addr i with
  | nil => simp at hi
  | cons p r ih =>
    simp only [List.length_cons, Nat.succ_mul] at h hi
    rw [storeLanes]
    cases i with
    | zero =>
      rw [Nat.zero_mul, Nat.add_zero, storeLanes_byte_other m _ r (by omega)]
      exact memWrite_byte_same m hb p (by omega) hj
    | succ i =>
      have := ih (memWrite_wf m hb addr p) (addr := addr + W / 8) (i := i) (by simp; omega) (by omega)
      rw [List.getElem_cons_succ, ← this]
      congr 1
      rw [Nat.succ_mul]; omega

end Sys2Proof.Machine
end

