-- ==== Sys2Proof/Laws/Operands.lean ====
section
/-! SUPPORT. Operands and statement shapes: what reading an operand gives, when a shape completes and with what, and everything
a shape can do when it answers a next state. -/

namespace Sys2Proof.Machine

/-! ### Kinds -/

/-- The two directions of a kind agree: what is put in a slot is what is read out, and its type is the kind's. -/
structure Kind.Lawful {lit val : Type} (k : Kind lit val) : Prop where
  proj_inj : ∀ v, k.proj (k.inj v) = some v
  inj_ty : ∀ v, (k.inj v).ty = k.ty
  proj_some : ∀ v a, k.proj v = some a → v = k.inj a
  proj_ty : ∀ v, v.ty = k.ty → (k.proj v).isSome = true

theorem kV128_lawful : kV128.Lawful :=
  ⟨fun _ => rfl, fun _ => rfl, fun v a h => by cases v <;> simp_all [kV128], fun v h => by cases v <;> simp_all [kV128, Value.ty]⟩

theorem kB8x16_lawful : kB8x16.Lawful :=
  ⟨fun _ => rfl, fun _ => rfl, fun v a h => by cases v <;> simp_all [kB8x16], fun v h => by cases v <;> simp_all [kB8x16, Value.ty]⟩

theorem kB16x8_lawful : kB16x8.Lawful :=
  ⟨fun _ => rfl, fun _ => rfl, fun v a h => by cases v <;> simp_all [kB16x8], fun v h => by cases v <;> simp_all [kB16x8, Value.ty]⟩

theorem kB32x4_lawful : kB32x4.Lawful :=
  ⟨fun _ => rfl, fun _ => rfl, fun v a h => by cases v <;> simp_all [kB32x4], fun v h => by cases v <;> simp_all [kB32x4, Value.ty]⟩

theorem kB64x2_lawful : kB64x2.Lawful :=
  ⟨fun _ => rfl, fun _ => rfl, fun v a h => by cases v <;> simp_all [kB64x2], fun v h => by cases v <;> simp_all [kB64x2, Value.ty]⟩

theorem kI8_lawful : kI8.Lawful :=
  ⟨fun _ => rfl, fun _ => rfl, fun v a h => by cases v <;> simp_all [kI8], fun v h => by cases v <;> simp_all [kI8, Value.ty]⟩

theorem kI16_lawful : kI16.Lawful :=
  ⟨fun _ => rfl, fun _ => rfl, fun v a h => by cases v <;> simp_all [kI16], fun v h => by cases v <;> simp_all [kI16, Value.ty]⟩

theorem kI32_lawful : kI32.Lawful :=
  ⟨fun _ => rfl, fun _ => rfl, fun v a h => by cases v <;> simp_all [kI32], fun v h => by cases v <;> simp_all [kI32, Value.ty]⟩

theorem kI64_lawful : kI64.Lawful :=
  ⟨fun _ => rfl, fun _ => rfl, fun v a h => by cases v <;> simp_all [kI64], fun v h => by cases v <;> simp_all [kI64, Value.ty]⟩

theorem kF32_lawful : kF32.Lawful :=
  ⟨fun _ => rfl, fun _ => rfl, fun v a h => by cases v <;> simp_all [kF32], fun v h => by cases v <;> simp_all [kF32, Value.ty]⟩

theorem kF64_lawful : kF64.Lawful :=
  ⟨fun _ => rfl, fun _ => rfl, fun v a h => by cases v <;> simp_all [kF64], fun v h => by cases v <;> simp_all [kF64, Value.ty]⟩

theorem kBool_lawful : kBool.Lawful :=
  ⟨fun _ => rfl, fun _ => rfl, fun v a h => by cases v <;> simp_all [kBool], fun v h => by cases v <;> simp_all [kBool, Value.ty]⟩

/-! ### Reading -/

/-- An operand that holds a value is read as that value. -/
theorem read_of_holds {lit val : Type} {k : Kind lit val} (hk : k.Lawful) {s : State} {o : Operand lit} {v : val}
    (h : Holds k s o v) : read k s o = .val v := by
  cases o with
  | slot x => simp only [Holds] at h; simp [read, h, hk.proj_inj]
  | lit l => simp only [Holds] at h; simp [read, h]

theorem both_val {α β : Type} (a : α) (b : β) : (Got.val a).both (Got.val b) = .val (a, b) := rfl

theorem both_of {α β : Type} {g : Got α} {h : Got β} {a : α} {b : β} (hg : g = .val a) (hh : h = .val b) :
    g.both h = .val (a, b) := by rw [hg, hh]; rfl

theorem readList_of_holds {lit val : Type} {k : Kind lit val} (hk : k.Lawful) {s : State} :
    ∀ (os : List (Operand lit)) (vs : Lanes val os.length),
      (∀ i : Fin os.length, Holds k s os[i] (vs.at i)) → readList k s os = .val vs := by
  intro os
  induction os with
  | nil =>
    intro vs _
    obtain ⟨l, hl⟩ := vs
    have : l = [] := List.length_eq_zero_iff.1 hl
    subst this; rfl
  | cons o r ih =>
    intro vs h
    obtain ⟨l, hl⟩ := vs
    match l, hl with
    | v :: l', hl =>
      have h0 : read k s o = .val v := read_of_holds hk (h ⟨0, by simp⟩)
      have h1 : readList k s r = .val ⟨l', by simpa using hl⟩ := by
        apply ih
        intro i
        exact h ⟨i.val + 1, by simp⟩
      simp [readList, h0, h1, Got.both, Got.map]

/-- An array operand whose elements hold values is read as those values. -/
theorem readArray_of_holds {lit val : Type} {n : Nat} {k : Kind lit val} (hk : k.Lawful) {s : State}
    {os : Lanes (Operand lit) n} {vs : Lanes val n} (h : HoldsAll k s os vs) : readArray k s os = .val vs := by
  obtain ⟨l, rfl⟩ := os
  have := readList_of_holds hk (s := s) l vs h
  simp [readArray, this, Got.map]

theorem readOffset_of_lt {s : State} {a : Nat} (h : a < 2 ^ s.params.offsetBits) : readOffset s a = .val a := by
  simp [readOffset, h]

/-! ### The checks and the fault before an operation -/

/-- When every operand has a value and every check passes, the operation is applied. -/
theorem withOperands_val {α : Type} {s : State} {ds : List (Ident × Ty)} {mem : Option Ident} {g : Got α} {a : α}
    (k : α → Out) (hg : g = .val a) (hd : ∀ e ∈ ds, s.accepts e.1 e.2 = true)
    (hm : ∀ m, mem = some m → (s.buffer m).isSome = true) (hn : distinctNames (ds.map Prod.fst) = true) :
    withOperands s ds mem g k = k a := by
  have h1 : (ds.all fun d => s.accepts d.1 d.2) = true := List.all_eq_true.2 hd
  subst hg
  cases mem with
  | none => simp [withOperands, Got.ill, h1, hn]
  | some m => simp [withOperands, Got.ill, h1, hn, hm m rfl]

/-- When an operand is unwritten and every check passes, `UnwrittenSlot` is raised. -/
theorem withOperands_unwritten {α : Type} {s : State} {ds : List (Ident × Ty)} {mem : Option Ident} {g : Got α} {x : Ident}
    (k : α → Out) (hg : g = .unwritten x) (hd : ∀ e ∈ ds, s.accepts e.1 e.2 = true)
    (hm : ∀ m, mem = some m → (s.buffer m).isSome = true) (hn : distinctNames (ds.map Prod.fst) = true) :
    withOperands s ds mem g k = .next (s.raise (.unwrittenSlot x)) := by
  have h1 : (ds.all fun d => s.accepts d.1 d.2) = true := List.all_eq_true.2 hd
  subst hg
  cases mem with
  | none => simp [withOperands, Got.ill, h1, hn]
  | some m => simp [withOperands, Got.ill, h1, hn, hm m rfl]

/-- Everything `withOperands` can do when it answers a next state: every check passed, and either an operand was unwritten and
its fault was raised, or the operation was applied. -/
theorem withOperands_next {α : Type} {s t : State} {ds : List (Ident × Ty)} {mem : Option Ident} {g : Got α} {k : α → Out}
    (h : withOperands s ds mem g k = .next t) :
    (∀ e ∈ ds, s.accepts e.1 e.2 = true) ∧ (∀ m, mem = some m → (s.buffer m).isSome = true) ∧
      distinctNames (ds.map Prod.fst) = true ∧
      ((∃ x, g = .unwritten x ∧ t = s.raise (.unwrittenSlot x)) ∨ (∃ a, g = .val a ∧ k a = .next t)) := by
  unfold withOperands at h
  split_ifs at h with h1 h2 h3 h4
  have h2' : ∀ e ∈ ds, s.accepts e.1 e.2 = true := by simpa using h2
  have h3' : ∀ m, mem = some m → (s.buffer m).isSome = true := by
    intro m hm; subst hm; exact Option.isSome_iff_ne_none.2 (by simpa using h3)
  refine ⟨h2', h3', by simpa using h4, ?_⟩
  cases g with
  | val a => exact .inr ⟨a, rfl, h⟩
  | unwritten x => exact .inl ⟨x, rfl, by simpa using h.symm⟩
  | illTyped => simp [Got.ill] at h1

/-! ### Frames -/

theorem retired_retire (s : State) (d : Ident) (v : Value) (n : Nat) : Retired s ((s.retire d v).drew n) :=
  ⟨rfl, rfl, rfl, rfl, fun _ => rfl⟩

/-- One result written: the frame of an instruction with one destination. -/
theorem wrote_retire (s : State) (d : Ident) (v : Value) (n : Nat) : Wrote s ((s.retire d v).drew n) [(d, v)] n where
  dest := by intro e he; simp at he; subst he; simp
  others := by intro x hx; simp at hx; simp [hx]
  bytes := fun _ _ => rfl
  draws := rfl
  rest := retired_retire s d v n

/-! ### When a shape completes -/

theorem accepts_all {s : State} {d : Ident} {τ : Ty} (h : s.accepts d τ = true) :
    ∀ e ∈ [(d, τ)], s.accepts e.1 e.2 = true := by intro e he; simp at he; subst he; exact h

/-- A statement of one result completes when its operands have values and the destination may take the result. -/
theorem exec1_completes {α val lit : Type} {s : State} {d : Ident} {k : Kind lit val} {g : Got α} {a : α} {f : α → val}
    {P : val → Prop} (hg : g = .val a) (hd : s.accepts d k.ty = true) (hP : P (f a)) :
    Completes k (exec1 s d k g f) s d 0 P := by
  refine ⟨s.retire d (k.inj (f a)), f a, ?_, ?_, hP⟩
  · exact withOperands_val _ hg (accepts_all hd) (by simp) (by simp [distinctNames])
  · exact wrote_retire s d (k.inj (f a)) 0

/-- A statement whose lanes draw completes likewise, `n` free values used up. -/
theorem execDraw_completes {α : Type} {s : State} {d : Ident} {n : Nat} {g : Got α} {a : α} {f : Nat → α → V128}
    {P : V128 → Prop} (hg : g = .val a) (hd : s.accepts d .v128 = true) (hP : P (f s.draws a)) :
    Completes kV128 (execDraw s d n g f) s d n P := by
  refine ⟨(s.retire d (.v128 (f s.draws a))).drew n, f s.draws a, ?_, ?_, hP⟩
  · exact withOperands_val _ hg (accepts_all hd) (by simp) (by simp [distinctNames])
  · exact wrote_retire s d _ n

/-- `in_range` and `Accessible` agree for a Buffer that exists and a count that is not zero. -/
theorem inRange_iff {s : State} {mem : Ident} {b : Buffer} (hb : s.buffer mem = some b) (addr n : Nat) :
    inRange s.params b addr n = true ↔ Accessible s mem addr n := by
  simp [inRange, Accessible, hb]

/-- A load completes when its bytes are accessible. -/
theorem execLoadLanes_completes {s : State} {d mem : Ident} {addr W L : Nat} {b : Buffer} {P : V128 → Prop}
    (ha : addr < 2 ^ s.params.offsetBits) (hb : s.buffer mem = some b) (hr : inRange s.params b addr (L * (W / 8)) = true)
    (hd : s.accepts d .v128 = true)
    (hP : P (ofLanes s.params.laneMapping (loadLanes s.params.laneMapping W L b addr))) :
    Completes kV128 (execLoadLanes s d mem addr W L) s d 0 P := by
  refine ⟨s.retire d (.v128 (ofLanes s.params.laneMapping (loadLanes s.params.laneMapping W L b addr))), _, ?_, ?_, hP⟩
  · unfold execLoadLanes
    rw [withOperands_val _ (readOffset_of_lt ha) (accepts_all hd) (by simp [hb]) (by simp [distinctNames])]
    simp [hb, hr]
  · exact wrote_retire s d _ 0

/-! ### Everything a shape can do when it answers a next state -/

/-- The effects an instruction can have, for given destinations and Buffer operand: it raises one of the two faults, or writes
its destinations and goes on, or replaces the content of its Buffer and goes on. -/
inductive Effect (s : State) (dests : List (Ident × Ty)) (buffer : Option Ident) : State → Prop where
  | unwritten (x : Ident) : Effect s dests buffer (s.raise (.unwrittenSlot x))
  | range (m : Ident) (a n : Nat) (hm : buffer = some m) (hr : ¬ Accessible s m a n) :
      Effect s dests buffer (s.raise (.bufferRange m a n))
  | wrote (ds : List (Ident × Value)) (n : Nat) (hd : ds.map (fun e => (e.1, e.2.ty)) = dests) :
      Effect s dests buffer ((s.putAll ds).advance.drew n)
  | stored (m : Ident) (b b' : Buffer) (hm : buffer = some m) (hb : s.buffer m = some b) (hl : b'.len = b.len)
      (hw : b.wf = true → b'.wf = true) (hd : dests = []) : Effect s dests buffer (s.setBuffer m b').advance

theorem exec1_effect {α val lit : Type} {s t : State} {d : Ident} {k : Kind lit val} (hk : k.Lawful) {g : Got α}
    {f : α → val} (buffer : Option Ident) (h : exec1 s d k g f = .next t) : Effect s [(d, k.ty)] buffer t := by
  obtain ⟨-, -, -, ⟨x, -, rfl⟩ | ⟨a, -, h⟩⟩ := withOperands_next h
  · exact .unwritten x
  · cases h
    exact .wrote [(d, k.inj (f a))] 0 (by simp [hk.inj_ty])

theorem execDraw_effect {α : Type} {s t : State} {d : Ident} {n : Nat} {g : Got α} {f : Nat → α → V128}
    (buffer : Option Ident) (h : execDraw s d n g f = .next t) : Effect s [(d, .v128)] buffer t := by
  obtain ⟨-, -, -, ⟨x, -, rfl⟩ | ⟨a, -, h⟩⟩ := withOperands_next h
  · exact .unwritten x
  · cases h
    exact .wrote [(d, .v128 (f s.draws a))] n rfl

theorem drawBinary_effect {s t : State} {d : Ident} {n : Nat} {a b : VOperand} {f : Nat → V128 → V128 → V128}
    (buffer : Option Ident) (h : drawBinary s d n a b f = .next t) : Effect s [(d, .v128)] buffer t :=
  execDraw_effect buffer h

theorem execCvt_effect {s t : State} {d1 d2 : Ident} {g : Got V128} {f : Nat → V128 → V128 × Bool}
    (buffer : Option Ident) (h : execCvt s d1 d2 g f = .next t) : Effect s [(d1, .v128), (d2, .boolean)] buffer t := by
  obtain ⟨-, -, -, ⟨x, -, rfl⟩ | ⟨a, -, h⟩⟩ := withOperands_next h
  · exact .unwritten x
  · cases h
    exact .wrote [(d1, .v128 (f s.draws a).1), (d2, .boolean (f s.draws a).2)] 1 rfl

theorem execLoadLanes_effect {s t : State} {d mem : Ident} {addr W L : Nat}
    (h : execLoadLanes s d mem addr W L = .next t) : Effect s [(d, .v128)] (some mem) t := by
  obtain ⟨-, -, -, ⟨x, -, rfl⟩ | ⟨a, -, h⟩⟩ := withOperands_next h
  · exact .unwritten x
  · cases hb : s.buffer mem with
    | none => simp [hb] at h
    | some b =>
      simp only [hb] at h
      split_ifs at h with hr <;> cases h
      · exact .wrote [(d, .v128 _)] 0 rfl
      · exact .range mem a _ rfl (fun hacc => hr ((inRange_iff hb _ _).2 hacc))

theorem execStoreLanes_effect {s t : State} {mem : Ident} {addr W L : Nat} {data : VOperand}
    (h : execStoreLanes s mem addr data W L = .next t) : Effect s [] (some mem) t := by
  obtain ⟨-, -, -, ⟨x, -, rfl⟩ | ⟨p, -, h⟩⟩ := withOperands_next h
  · exact .unwritten x
  · cases hb : s.buffer mem with
    | none => simp [hb] at h
    | some b =>
      simp only [hb] at h
      split_ifs at h with hr <;> cases h
      · exact .stored mem b _ rfl hb (storeLanes_len _ _ _ _) (fun hw => storeLanes_wf _ hw _ _) rfl
      · exact .range mem p.1 _ rfl (fun hacc => hr ((inRange_iff hb _ _).2 hacc))

end Sys2Proof.Machine
end

