-- ==== Sys2Proof/Laws/Effects.lean ====
section
/-! SUPPORT. What any instruction can do: one inversion lemma over all 216, by one line for each. -/

namespace Sys2Proof.Machine

/-- Every instruction that answers a next state has one of the effects, for its own destinations and Buffer operand. -/
theorem exec_effect {i : Instr} {s t : State} (h : exec i s = .next t) :
    Effect s i.statement.dests i.statement.buffer? t := by
  cases i with
  | b8x16Build d x => exact exec1_effect kB8x16_lawful _ h
  | b16x8Build d x => exact exec1_effect kB16x8_lawful _ h
  | b32x4Build d x => exact exec1_effect kB32x4_lawful _ h
  | b64x2Build d x => exact exec1_effect kB64x2_lawful _ h
  | i8x16Build d x => exact exec1_effect kV128_lawful _ h
  | i16x8Build d x => exact exec1_effect kV128_lawful _ h
  | i32x4Build d x => exact exec1_effect kV128_lawful _ h
  | i64x2Build d x => exact exec1_effect kV128_lawful _ h
  | f32x4Build d x => exact exec1_effect kV128_lawful _ h
  | f64x2Build d x => exact exec1_effect kV128_lawful _ h
  | b8x16Splat d x => exact exec1_effect kB8x16_lawful _ h
  | b16x8Splat d x => exact exec1_effect kB16x8_lawful _ h
  | b32x4Splat d x => exact exec1_effect kB32x4_lawful _ h
  | b64x2Splat d x => exact exec1_effect kB64x2_lawful _ h
  | i8x16Splat d x => exact exec1_effect kV128_lawful _ h
  | i16x8Splat d x => exact exec1_effect kV128_lawful _ h
  | i32x4Splat d x => exact exec1_effect kV128_lawful _ h
  | i64x2Splat d x => exact exec1_effect kV128_lawful _ h
  | f32x4Splat d x => exact exec1_effect kV128_lawful _ h
  | f64x2Splat d x => exact exec1_effect kV128_lawful _ h
  | b8x16ExtractLane d a i => exact exec1_effect kBool_lawful _ h
  | b16x8ExtractLane d a i => exact exec1_effect kBool_lawful _ h
  | b32x4ExtractLane d a i => exact exec1_effect kBool_lawful _ h
  | b64x2ExtractLane d a i => exact exec1_effect kBool_lawful _ h
  | i8x16ExtractLane d a i => exact exec1_effect kI8_lawful _ h
  | i16x8ExtractLane d a i => exact exec1_effect kI16_lawful _ h
  | i32x4ExtractLane d a i => exact exec1_effect kI32_lawful _ h
  | i64x2ExtractLane d a i => exact exec1_effect kI64_lawful _ h
  | f32x4ExtractLane d a i => exact exec1_effect kF32_lawful _ h
  | f64x2ExtractLane d a i => exact exec1_effect kF64_lawful _ h
  | b8x16ReplaceLane d a i x => exact exec1_effect kB8x16_lawful _ h
  | b16x8ReplaceLane d a i x => exact exec1_effect kB16x8_lawful _ h
  | b32x4ReplaceLane d a i x => exact exec1_effect kB32x4_lawful _ h
  | b64x2ReplaceLane d a i x => exact exec1_effect kB64x2_lawful _ h
  | i8x16ReplaceLane d a i x => exact exec1_effect kV128_lawful _ h
  | i16x8ReplaceLane d a i x => exact exec1_effect kV128_lawful _ h
  | i32x4ReplaceLane d a i x => exact exec1_effect kV128_lawful _ h
  | i64x2ReplaceLane d a i x => exact exec1_effect kV128_lawful _ h
  | f32x4ReplaceLane d a i x => exact exec1_effect kV128_lawful _ h
  | f64x2ReplaceLane d a i x => exact exec1_effect kV128_lawful _ h
  | v8x16Select d c t f => exact exec1_effect kV128_lawful _ h
  | v16x8Select d c t f => exact exec1_effect kV128_lawful _ h
  | v32x4Select d c t f => exact exec1_effect kV128_lawful _ h
  | v64x2Select d c t f => exact exec1_effect kV128_lawful _ h
  | v8x16Swizzle d a c => exact exec1_effect kV128_lawful _ h
  | v16x8Swizzle d a c => exact exec1_effect kV128_lawful _ h
  | v32x4Swizzle d a c => exact exec1_effect kV128_lawful _ h
  | v64x2Swizzle d a c => exact exec1_effect kV128_lawful _ h
  | v8x16Shuffle d a b c => exact exec1_effect kV128_lawful _ h
  | v16x8Shuffle d a b c => exact exec1_effect kV128_lawful _ h
  | v32x4Shuffle d a b c => exact exec1_effect kV128_lawful _ h
  | v64x2Shuffle d a b c => exact exec1_effect kV128_lawful _ h
  | i8x16Add d a b => exact exec1_effect kV128_lawful _ h
  | i16x8Add d a b => exact exec1_effect kV128_lawful _ h
  | i32x4Add d a b => exact exec1_effect kV128_lawful _ h
  | i64x2Add d a b => exact exec1_effect kV128_lawful _ h
  | i8x16Sub d a b => exact exec1_effect kV128_lawful _ h
  | i16x8Sub d a b => exact exec1_effect kV128_lawful _ h
  | i32x4Sub d a b => exact exec1_effect kV128_lawful _ h
  | i64x2Sub d a b => exact exec1_effect kV128_lawful _ h
  | i8x16Mul d a b => exact exec1_effect kV128_lawful _ h
  | i16x8Mul d a b => exact exec1_effect kV128_lawful _ h
  | i32x4Mul d a b => exact exec1_effect kV128_lawful _ h
  | i64x2Mul d a b => exact exec1_effect kV128_lawful _ h
  | i8x16Neg d a => exact exec1_effect kV128_lawful _ h
  | i16x8Neg d a => exact exec1_effect kV128_lawful _ h
  | i32x4Neg d a => exact exec1_effect kV128_lawful _ h
  | i64x2Neg d a => exact exec1_effect kV128_lawful _ h
  | s8x16AddSaturate d a b => exact exec1_effect kV128_lawful _ h
  | s16x8AddSaturate d a b => exact exec1_effect kV128_lawful _ h
  | u8x16AddSaturate d a b => exact exec1_effect kV128_lawful _ h
  | u16x8AddSaturate d a b => exact exec1_effect kV128_lawful _ h
  | s8x16SubSaturate d a b => exact exec1_effect kV128_lawful _ h
  | s16x8SubSaturate d a b => exact exec1_effect kV128_lawful _ h
  | u8x16SubSaturate d a b => exact exec1_effect kV128_lawful _ h
  | u16x8SubSaturate d a b => exact exec1_effect kV128_lawful _ h
  | i8x16ShiftLeftByScalar d a y => exact exec1_effect kV128_lawful _ h
  | i16x8ShiftLeftByScalar d a y => exact exec1_effect kV128_lawful _ h
  | i32x4ShiftLeftByScalar d a y => exact exec1_effect kV128_lawful _ h
  | i64x2ShiftLeftByScalar d a y => exact exec1_effect kV128_lawful _ h
  | s8x16ShiftRightByScalar d a y => exact exec1_effect kV128_lawful _ h
  | s16x8ShiftRightByScalar d a y => exact exec1_effect kV128_lawful _ h
  | s32x4ShiftRightByScalar d a y => exact exec1_effect kV128_lawful _ h
  | s64x2ShiftRightByScalar d a y => exact exec1_effect kV128_lawful _ h
  | u8x16ShiftRightByScalar d a y => exact exec1_effect kV128_lawful _ h
  | u16x8ShiftRightByScalar d a y => exact exec1_effect kV128_lawful _ h
  | u32x4ShiftRightByScalar d a y => exact exec1_effect kV128_lawful _ h
  | u64x2ShiftRightByScalar d a y => exact exec1_effect kV128_lawful _ h
  | b8x16And d a b => exact exec1_effect kB8x16_lawful _ h
  | b16x8And d a b => exact exec1_effect kB16x8_lawful _ h
  | b32x4And d a b => exact exec1_effect kB32x4_lawful _ h
  | b64x2And d a b => exact exec1_effect kB64x2_lawful _ h
  | b8x16Or d a b => exact exec1_effect kB8x16_lawful _ h
  | b16x8Or d a b => exact exec1_effect kB16x8_lawful _ h
  | b32x4Or d a b => exact exec1_effect kB32x4_lawful _ h
  | b64x2Or d a b => exact exec1_effect kB64x2_lawful _ h
  | b8x16Xor d a b => exact exec1_effect kB8x16_lawful _ h
  | b16x8Xor d a b => exact exec1_effect kB16x8_lawful _ h
  | b32x4Xor d a b => exact exec1_effect kB32x4_lawful _ h
  | b64x2Xor d a b => exact exec1_effect kB64x2_lawful _ h
  | b8x16Not d a => exact exec1_effect kB8x16_lawful _ h
  | b16x8Not d a => exact exec1_effect kB16x8_lawful _ h
  | b32x4Not d a => exact exec1_effect kB32x4_lawful _ h
  | b64x2Not d a => exact exec1_effect kB64x2_lawful _ h
  | v128And d a b => exact exec1_effect kV128_lawful _ h
  | v128Or d a b => exact exec1_effect kV128_lawful _ h
  | v128Xor d a b => exact exec1_effect kV128_lawful _ h
  | v128Not d a => exact exec1_effect kV128_lawful _ h
  | b8x16AnyTrue d a => exact exec1_effect kBool_lawful _ h
  | b16x8AnyTrue d a => exact exec1_effect kBool_lawful _ h
  | b32x4AnyTrue d a => exact exec1_effect kBool_lawful _ h
  | b64x2AnyTrue d a => exact exec1_effect kBool_lawful _ h
  | b8x16AllTrue d a => exact exec1_effect kBool_lawful _ h
  | b16x8AllTrue d a => exact exec1_effect kBool_lawful _ h
  | b32x4AllTrue d a => exact exec1_effect kBool_lawful _ h
  | b64x2AllTrue d a => exact exec1_effect kBool_lawful _ h
  | i8x16Equal d a b => exact exec1_effect kB8x16_lawful _ h
  | i16x8Equal d a b => exact exec1_effect kB16x8_lawful _ h
  | i32x4Equal d a b => exact exec1_effect kB32x4_lawful _ h
  | i64x2Equal d a b => exact exec1_effect kB64x2_lawful _ h
  | f32x4Equal d a b => exact exec1_effect kB32x4_lawful _ h
  | f64x2Equal d a b => exact exec1_effect kB64x2_lawful _ h
  | i8x16NotEqual d a b => exact exec1_effect kB8x16_lawful _ h
  | i16x8NotEqual d a b => exact exec1_effect kB16x8_lawful _ h
  | i32x4NotEqual d a b => exact exec1_effect kB32x4_lawful _ h
  | i64x2NotEqual d a b => exact exec1_effect kB64x2_lawful _ h
  | f32x4NotEqual d a b => exact exec1_effect kB32x4_lawful _ h
  | f64x2NotEqual d a b => exact exec1_effect kB64x2_lawful _ h
  | s8x16LessThan d a b => exact exec1_effect kB8x16_lawful _ h
  | s16x8LessThan d a b => exact exec1_effect kB16x8_lawful _ h
  | s32x4LessThan d a b => exact exec1_effect kB32x4_lawful _ h
  | s64x2LessThan d a b => exact exec1_effect kB64x2_lawful _ h
  | u8x16LessThan d a b => exact exec1_effect kB8x16_lawful _ h
  | u16x8LessThan d a b => exact exec1_effect kB16x8_lawful _ h
  | u32x4LessThan d a b => exact exec1_effect kB32x4_lawful _ h
  | u64x2LessThan d a b => exact exec1_effect kB64x2_lawful _ h
  | f32x4LessThan d a b => exact exec1_effect kB32x4_lawful _ h
  | f64x2LessThan d a b => exact exec1_effect kB64x2_lawful _ h
  | s8x16LessThanOrEqual d a b => exact exec1_effect kB8x16_lawful _ h
  | s16x8LessThanOrEqual d a b => exact exec1_effect kB16x8_lawful _ h
  | s32x4LessThanOrEqual d a b => exact exec1_effect kB32x4_lawful _ h
  | s64x2LessThanOrEqual d a b => exact exec1_effect kB64x2_lawful _ h
  | u8x16LessThanOrEqual d a b => exact exec1_effect kB8x16_lawful _ h
  | u16x8LessThanOrEqual d a b => exact exec1_effect kB16x8_lawful _ h
  | u32x4LessThanOrEqual d a b => exact exec1_effect kB32x4_lawful _ h
  | u64x2LessThanOrEqual d a b => exact exec1_effect kB64x2_lawful _ h
  | f32x4LessThanOrEqual d a b => exact exec1_effect kB32x4_lawful _ h
  | f64x2LessThanOrEqual d a b => exact exec1_effect kB64x2_lawful _ h
  | s8x16GreaterThan d a b => exact exec1_effect kB8x16_lawful _ h
  | s16x8GreaterThan d a b => exact exec1_effect kB16x8_lawful _ h
  | s32x4GreaterThan d a b => exact exec1_effect kB32x4_lawful _ h
  | s64x2GreaterThan d a b => exact exec1_effect kB64x2_lawful _ h
  | u8x16GreaterThan d a b => exact exec1_effect kB8x16_lawful _ h
  | u16x8GreaterThan d a b => exact exec1_effect kB16x8_lawful _ h
  | u32x4GreaterThan d a b => exact exec1_effect kB32x4_lawful _ h
  | u64x2GreaterThan d a b => exact exec1_effect kB64x2_lawful _ h
  | f32x4GreaterThan d a b => exact exec1_effect kB32x4_lawful _ h
  | f64x2GreaterThan d a b => exact exec1_effect kB64x2_lawful _ h
  | s8x16GreaterThanOrEqual d a b => exact exec1_effect kB8x16_lawful _ h
  | s16x8GreaterThanOrEqual d a b => exact exec1_effect kB16x8_lawful _ h
  | s32x4GreaterThanOrEqual d a b => exact exec1_effect kB32x4_lawful _ h
  | s64x2GreaterThanOrEqual d a b => exact exec1_effect kB64x2_lawful _ h
  | u8x16GreaterThanOrEqual d a b => exact exec1_effect kB8x16_lawful _ h
  | u16x8GreaterThanOrEqual d a b => exact exec1_effect kB16x8_lawful _ h
  | u32x4GreaterThanOrEqual d a b => exact exec1_effect kB32x4_lawful _ h
  | u64x2GreaterThanOrEqual d a b => exact exec1_effect kB64x2_lawful _ h
  | f32x4GreaterThanOrEqual d a b => exact exec1_effect kB32x4_lawful _ h
  | f64x2GreaterThanOrEqual d a b => exact exec1_effect kB64x2_lawful _ h
  | v8x16Load d mem addr => exact execLoadLanes_effect h
  | v16x8Load d mem addr => exact execLoadLanes_effect h
  | v32x4Load d mem addr => exact execLoadLanes_effect h
  | v64x2Load d mem addr => exact execLoadLanes_effect h
  | v8x16Store mem addr data => exact execStoreLanes_effect h
  | v16x8Store mem addr data => exact execStoreLanes_effect h
  | v32x4Store mem addr data => exact execStoreLanes_effect h
  | v64x2Store mem addr data => exact execStoreLanes_effect h
  | v32x4Load1 d mem addr => exact execLoadLanes_effect h
  | v32x4Load2 d mem addr => exact execLoadLanes_effect h
  | v32x4Load3 d mem addr => exact execLoadLanes_effect h
  | v32x4Store1 mem addr data => exact execStoreLanes_effect h
  | v32x4Store2 mem addr data => exact execStoreLanes_effect h
  | v32x4Store3 mem addr data => exact execStoreLanes_effect h
  | f32x4Neg d a => exact exec1_effect kV128_lawful _ h
  | f64x2Neg d a => exact exec1_effect kV128_lawful _ h
  | f32x4Abs d a => exact exec1_effect kV128_lawful _ h
  | f64x2Abs d a => exact exec1_effect kV128_lawful _ h
  | f32x4Min d a b => exact drawBinary_effect _ h
  | f64x2Min d a b => exact drawBinary_effect _ h
  | f32x4Max d a b => exact drawBinary_effect _ h
  | f64x2Max d a b => exact drawBinary_effect _ h
  | f32x4MinNum d a b => exact drawBinary_effect _ h
  | f64x2MinNum d a b => exact drawBinary_effect _ h
  | f32x4MaxNum d a b => exact drawBinary_effect _ h
  | f64x2MaxNum d a b => exact drawBinary_effect _ h
  | f32x4Add d a b rm => exact drawBinary_effect _ h
  | f64x2Add d a b rm => exact drawBinary_effect _ h
  | f32x4Sub d a b rm => exact drawBinary_effect _ h
  | f64x2Sub d a b rm => exact drawBinary_effect _ h
  | f32x4Div d a b rm => exact drawBinary_effect _ h
  | f64x2Div d a b rm => exact drawBinary_effect _ h
  | f32x4Mul d a b rm => exact drawBinary_effect _ h
  | f64x2Mul d a b rm => exact drawBinary_effect _ h
  | f32x4Sqrt d a rm => exact execDraw_effect _ h
  | f64x2Sqrt d a rm => exact execDraw_effect _ h
  | f32x4ReciprocalApproximation d a => exact execDraw_effect _ h
  | f64x2ReciprocalApproximation d a => exact execDraw_effect _ h
  | f32x4ReciprocalSqrtApproximation d a => exact execDraw_effect _ h
  | f64x2ReciprocalSqrtApproximation d a => exact execDraw_effect _ h
  | f32x4FromSignedInt d a rm => exact exec1_effect kV128_lawful _ h
  | f64x2FromSignedInt d a rm => exact exec1_effect kV128_lawful _ h
  | f32x4FromUnsignedInt d a rm => exact exec1_effect kV128_lawful _ h
  | f64x2FromUnsignedInt d a rm => exact exec1_effect kV128_lawful _ h
  | s32x4FromFloat d1 d2 a => exact execCvt_effect _ h
  | s64x2FromFloat d1 d2 a => exact execCvt_effect _ h
  | u32x4FromFloat d1 d2 a => exact execCvt_effect _ h
  | u64x2FromFloat d1 d2 a => exact execCvt_effect _ h

end Sys2Proof.Machine
end

