-- ==== Sys2Proof/Laws/Text.lean ====
section
/-! SUPPORT. Reading back what the encoder writes, operand by operand: numerals, lists, names, mnemonics. -/

namespace Sys2Proof

/-! ### Numerals -/

theorem digitValue_digitChar {n : Nat} (h : n < 16) : digitValue (digitChar n) = some n := by
  have : ∀ k : Fin 16, digitValue (digitChar k.val) = some k.val := by decide
  exact this ⟨n, h⟩

theorem readDigits_append (base n : Nat) (u v : Text) :
    readDigits base n (u ++ v) = (readDigits base n u).bind fun m => readDigits base m v := by
  induction u generalizing n with
  | nil => rfl
  | cons c r ih =>
    simp only [List.cons_append, readDigits]
    cases digitValue c with
    | none => rfl
    | some k => simp only; split_ifs <;> simp [ih]

theorem readDigits_hexDigits (k n m : Nat) : readDigits 16 m (hexDigits k n) = some (m * 16 ^ k + n % 16 ^ k) := by
  induction k generalizing n m with
  | zero => simp [hexDigits, readDigits, Nat.mod_one]
  | succ k ih =>
    have hd : n % 16 < 16 := Nat.mod_lt n (by omega)
    rw [hexDigits, readDigits_append, ih]
    simp only [Option.bind_some, readDigits, digitValue_digitChar hd, if_pos hd]
    rw [Nat.pow_succ' (m := 16), Nat.mod_mul]
    congr 1
    ring

theorem hexDigits_ne_nil {k n : Nat} (h : 0 < k) : hexDigits k n ≠ [] := by
  cases k with
  | zero => omega
  | succ k => simp [hexDigits]

theorem readNumeral_hex {k n : Nat} (h : 0 < k) (hn : n < 16 ^ k) :
    readNumeral ('0' :: 'x' :: hexDigits k n) = some n := by
  simp [readNumeral, hexDigits_ne_nil h, readDigits_hexDigits, Nat.mod_eq_of_lt hn]

theorem readNumeral_hexNumeral (n : Nat) : readNumeral (hexNumeral n) = some n := by
  apply readNumeral_hex (by omega)
  rcases Nat.eq_zero_or_pos n with rfl | hn
  · exact Nat.pow_pos (by omega)
  · have h1 : n < 2 ^ (Nat.log2 n + 1) := Nat.lt_log2_self
    have h2 : 2 ^ (Nat.log2 n + 1) ≤ 2 ^ (4 * (Nat.log2 n / 4 + 1)) := Nat.pow_le_pow_right (by omega) (by omega)
    rw [Nat.pow_mul] at h2
    exact lt_of_lt_of_le h1 h2

theorem readPattern_hexPattern {W : Nat} (hW : 4 ∣ W) (h0 : 0 < W) (p : BitVec W) : readPattern W (hexPattern p) = some p := by
  have hd : 16 ^ (W / 4) = 2 ^ W := by
    obtain ⟨k, rfl⟩ := hW
    rw [Nat.mul_div_cancel_left _ (by omega), Nat.pow_mul]
  have h4 : 0 < W / 4 := Nat.div_pos (Nat.le_of_dvd h0 hW) (by omega)
  have : readNumeral (hexPattern p) = some p.toNat := readNumeral_hex h4 (by rw [hd]; exact p.isLt)
  simp [readPattern, this, p.isLt]

theorem readDecimal_decimal {n : Nat} (h : n < 32) : readDecimal (decimal n) = some n := by
  have : ∀ k : Fin 32, readDecimal (decimal k.val) = some k.val := by decide +kernel
  exact this ⟨n, h⟩

/-! ### Lists -/

theorem readAll_map {α β γ : Type} {f : β → Option γ} {g : α → β} {h : α → γ} {l : List α}
    (H : ∀ x ∈ l, f (g x) = some (h x)) : readAll f (l.map g) = some (l.map h) := by
  induction l with
  | nil => rfl
  | cons x r ih =>
    have h1 := H x (by simp)
    have h2 := ih (fun y hy => H y (by simp [hy]))
    simp [readAll, h1, h2]

theorem readLanes_map {α β : Type} {n : Nat} {f : β → Option α} {g : α → β} (v : Lanes α n)
    (H : ∀ x ∈ v.toList, f (g x) = some x) : readLanes n f (v.toList.map g) = some v := by
  have h := readAll_map (f := f) (g := g) (h := id) (l := v.toList) H
  rw [List.map_id] at h
  simp [readLanes, h, Lanes.ofList?, v.size]

/-! ### Operands -/

theorem rdLane_hexPattern {W : Nat} (hW : 4 ∣ W) (h0 : 0 < W) (p : BitVec W) :
    rdLane W (.word (hexPattern p)) = some p := readPattern_hexPattern hW h0 p

theorem rdVector_raw {o : VOperand} (h : (Arg.vector o).wellFormed = true) : rdVector (Arg.vector o).raw = some o := by
  cases o with
  | slot x => simp only [Arg.wellFormed, Operand.named] at h; simp [Arg.raw, rdVector, h]
  | lit l =>
    cases l with
    | w8 ps =>
      have := readLanes_map (f := rdLane 8) (g := fun p => Elem.word (hexPattern p)) ps fun p _ => rdLane_hexPattern (by decide) (by decide) p
      simp [Arg.raw, V128Lit.raw, rdVector, this]
    | w16 ps =>
      have := readLanes_map (f := rdLane 16) (g := fun p => Elem.word (hexPattern p)) ps fun p _ => rdLane_hexPattern (by decide) (by decide) p
      simp [Arg.raw, V128Lit.raw, rdVector, this]
    | w32 ps =>
      have := readLanes_map (f := rdLane 32) (g := fun p => Elem.word (hexPattern p)) ps fun p _ => rdLane_hexPattern (by decide) (by decide) p
      simp [Arg.raw, V128Lit.raw, rdVector, this]
    | w64 ps =>
      have := readLanes_map (f := rdLane 64) (g := fun p => Elem.word (hexPattern p)) ps fun p _ => rdLane_hexPattern (by decide) (by decide) p
      simp [Arg.raw, V128Lit.raw, rdVector, this]

theorem readTF_tfWord (b : Bool) : readTF (tfWord b) = some b := by cases b <;> decide

theorem rdMask_raw {n : Nat} {τ : Ty} {o : Operand (Lanes Bool n)} (h : (Arg.mask τ o).wellFormed = true) :
    rdMask n (Arg.mask τ o).raw = some o := by
  cases o with
  | slot x => simp only [Arg.wellFormed, Operand.named] at h; simp [Arg.raw, rdMask, h]
  | lit v =>
    have := readLanes_map (f := rdTF) (g := fun b => Elem.word (tfWord b)) v fun b _ => readTF_tfWord b
    simp [Arg.raw, rdMask, this]

theorem rdScalarElem_scalarElem {W : Nat} (hW : 4 ∣ W) (h0 : 0 < W) {τ : Ty} {o : Operand (BitVec W)}
    (h : o.named Ident.valid = true) : rdScalarElem τ W (scalarElem τ o) = some o := by
  cases o with
  | slot x => simp only [Operand.named] at h; simp [scalarElem, rdScalarElem, h]
  | lit p => simp [scalarElem, rdScalarElem, readPattern_hexPattern hW h0]

theorem rdScalar_raw {W : Nat} (hW : 4 ∣ W) (h0 : 0 < W) {τ : Ty} {o : Operand (BitVec W)}
    (h : (Arg.scalar τ o).wellFormed = true) : rdScalar τ W (Arg.scalar τ o).raw = some o :=
  rdScalarElem_scalarElem hW h0 h

theorem rdScalars_raw {W n : Nat} (hW : 4 ∣ W) (h0 : 0 < W) {τ : Ty} {os : Lanes (Operand (BitVec W)) n}
    (h : (Arg.scalars τ os.toList).wellFormed = true) : rdScalars τ W n (Arg.scalars τ os.toList).raw = some os := by
  simp only [Arg.wellFormed, List.all_eq_true] at h
  exact readLanes_map os fun o ho => rdScalarElem_scalarElem hW h0 (h o ho)

theorem rdBoolean_raw {o : Operand Bool} (h : (Arg.boolean o).wellFormed = true) : rdBoolean (Arg.boolean o).raw = some o := by
  cases o with
  | slot x =>
    simp only [Arg.wellFormed, Operand.named] at h
    have h1 : ¬ x = ['t', 'r', 'u', 'e'] := by rintro rfl; revert h; decide
    have h2 : ¬ x = ['f', 'a', 'l', 's', 'e'] := by rintro rfl; revert h; decide
    simp [Arg.raw, rdBoolean, h, h1, h2]
  | lit b => cases b <;> rfl

theorem rdBooleanElem_booleanElem {o : Operand Bool} (h : o.named Ident.validElement = true) :
    rdBooleanElem (booleanElem o) = some o := by
  cases o with
  | slot x =>
    simp only [Operand.named, Ident.validElement, Bool.and_eq_true, Bool.not_eq_true', beq_eq_false_iff_ne] at h
    obtain ⟨⟨hv, h1⟩, h2⟩ := h
    have h3 : ¬ x = ['t', 'r', 'u', 'e'] := by rintro rfl; revert hv; decide
    have h4 : ¬ x = ['f', 'a', 'l', 's', 'e'] := by rintro rfl; revert hv; decide
    simp [booleanElem, rdBooleanElem, readTF, h1, h2, h3, h4, hv]
  | lit b => cases b <;> rfl

theorem rdBooleans_raw {n : Nat} {os : Lanes (Operand Bool) n} (h : (Arg.booleans os.toList).wellFormed = true) :
    rdBooleans n (Arg.booleans os.toList).raw = some os := by
  simp only [Arg.wellFormed, List.all_eq_true] at h
  exact readLanes_map os fun o ho => rdBooleanElem_booleanElem (h o ho)

theorem readIndex_decimal {n : Nat} (hn : n ≤ 32) (i : Fin n) : readIndex n (decimal i.val) = some i := by
  simp [readIndex, readDecimal_decimal (lt_of_lt_of_le i.isLt hn)]

theorem rdIndex_raw {n : Nat} (hn : n ≤ 32) (i : Fin n) : rdIndex n (Arg.index i.val).raw = some i := readIndex_decimal hn i

theorem rdIndices_raw {n k : Nat} (hn : n ≤ 32) (s : Lanes (Fin n) k) : rdIndices n k (indices s).raw = some s := by
  simp only [indices, Arg.raw, List.map_map]
  exact readLanes_map s fun i _ => readIndex_decimal hn i

theorem rdRounding_raw (rm : RoundingMode) : rdRounding (Arg.rounding rm).raw = some rm := by cases rm <;> decide +kernel

theorem rdName_raw {m : Ident} (h : (Arg.buffer m).wellFormed = true) : rdName (Arg.buffer m).raw = some m := by
  simp only [Arg.wellFormed] at h; simp [Arg.raw, rdName, h]

theorem rdOffset_raw (a : Nat) : rdOffset (Arg.offset a).raw = some a := readNumeral_hexNumeral a

/-! ### Mnemonics -/

theorem readPrefix_text (p : Prefix) : readPrefix p.text = some p := by cases p <;> decide +kernel

theorem readOp_text (o : OpName) : readOp o.text = some o := by cases o <;> decide +kernel

theorem readMnemonic_text (m : Mnemonic) : readMnemonic m.text = some m := by
  have hp : ∀ c ∈ m.pre.text, (c != '.') = true :=
    List.all_eq_true.1 (by cases m.pre <;> decide)
  have h1 : m.text.takeWhile (· != '.') = m.pre.text := by
    rw [Mnemonic.text, List.takeWhile_append_of_pos hp]; simp
  have h2 : m.text.dropWhile (· != '.') = '.' :: m.op.text := by
    rw [Mnemonic.text, List.dropWhile_append_of_pos hp]; simp
  simp [readMnemonic, h1, h2, readPrefix_text, readOp_text]

/-! ### Statements -/

/-- A statement as the encoder writes it is assembled by the row of its mnemonic. -/
theorem assemble_raw {st : Statement} {row : Row} (h : findRow st.mnemonic rows = some row)
    (hd : st.dests.all (fun d => d.1.valid) = true) :
    assemble st.raw = row (st.dests.map Prod.fst) (st.args.map Arg.raw) := by
  have hd' : ((st.dests.map Prod.fst).all Ident.valid) = true := by
    rw [List.all_map]; exact hd
  simp [assemble, Statement.raw, hd', readMnemonic_text, h]

end Sys2Proof
end

