-- ==== Sys2Proof/Laws/PerInstr.lean ====
section
/-! SUPPORT. Statements made for every instruction, one lemma each. -/

namespace Sys2Proof

/-- A well-formed instruction written as a statement is assembled back to itself: the row of its mnemonic is found, and every
operand is read as what it was (30_encoding.md R107 to R109). -/
def Laws.Assembles.Statement (i : Instr) : Prop := i.wellFormed = true → assemble i.statement.raw = .ok i

/-- The parts of well-formedness. -/
theorem wellFormed_parts {i : Instr} (h : i.wellFormed = true) :
    i.statement.dests.all (fun d => d.1.valid) = true ∧ (∀ a ∈ i.statement.args, a.wellFormed = true) ∧
      distinctNames (i.statement.dests.map Prod.fst) = true := by
  simp only [Instr.wellFormed, Bool.and_eq_true] at h
  exact ⟨h.1.1, List.all_eq_true.1 h.1.2, h.2⟩

theorem form1_ok {α : Type} {ra : RawArg → Option α} {mk : Ident → α → Instr} {d : Ident} {A : RawArg} {x : α}
    (ha : ra A = some x) : form1 ra mk [d] [A] = .ok (mk d x) := by simp [form1, ha, orIll]

theorem form2_ok {α β : Type} {ra : RawArg → Option α} {rb : RawArg → Option β} {mk : Ident → α → β → Instr} {d : Ident}
    {A B : RawArg} {x : α} {y : β} (ha : ra A = some x) (hb : rb B = some y) :
    form2 ra rb mk [d] [A, B] = .ok (mk d x y) := by simp [form2, ha, hb]

theorem form3_ok {α β γ : Type} {ra : RawArg → Option α} {rb : RawArg → Option β} {rc : RawArg → Option γ}
    {mk : Ident → α → β → γ → Instr} {d : Ident} {A B C : RawArg} {x : α} {y : β} {z : γ} (ha : ra A = some x)
    (hb : rb B = some y) (hc : rc C = some z) : form3 ra rb rc mk [d] [A, B, C] = .ok (mk d x y z) := by
  simp [form3, ha, hb, hc]

theorem formStore_ok {mk : Ident → Nat → VOperand → Instr} {A B C : RawArg} {x : Ident} {y : Nat} {z : VOperand}
    (ha : rdName A = some x) (hb : rdOffset B = some y) (hc : rdVector C = some z) :
    formStore mk [] [A, B, C] = .ok (mk x y z) := by simp [formStore, ha, hb, hc]

theorem formConvert_ok {mk : Ident → Ident → VOperand → Instr} {d1 d2 : Ident} {A : RawArg} {x : VOperand}
    (hd : distinctNames [d1, d2] = true) (ha : rdVector A = some x) : formConvert mk [d1, d2] [A] = .ok (mk d1 d2 x) := by
  have : ¬ d1 = d2 := by simpa [distinctNames] using hd
  simp [formConvert, ha, this]

namespace Laws.Assembles

set_option maxRecDepth 20000

theorem b8x16Build (d : Ident) (x : Lanes (Operand Bool) 16) : Statement (.b8x16Build d x) := fun h => by
  obtain ⟨hd, ha, -⟩ := wellFormed_parts h
  have h0 := ha _ (.head _)
  exact (assemble_raw (row := form1 (rdBooleans 16) .b8x16Build) rfl hd).trans (form1_ok (rdBooleans_raw h0))

theorem b16x8Build (d : Ident) (x : Lanes (Operand Bool) 8) : Statement (.b16x8Build d x) := fun h => by
  obtain ⟨hd, ha, -⟩ := wellFormed_parts h
  have h0 := ha _ (.head _)
  exact (assemble_raw (row := form1 (rdBooleans 8) .b16x8Build) rfl hd).trans (form1_ok (rdBooleans_raw h0))

theorem b32x4Build (d : Ident) (x : Lanes (Operand Bool) 4) : Statement (.b32x4Build d x) := fun h => by
  obtain ⟨hd, ha, -⟩ := wellFormed_parts h
  have h0 := ha _ (.head _)
  exact (assemble_raw (row := form1 (rdBooleans 4) .b32x4Build) rfl hd).trans (form1_ok (rdBooleans_raw h0))

theorem b64x2Build (d : Ident) (x : Lanes (Operand Bool) 2) : Statement (.b64x2Build d x) := fun h => by
  obtain ⟨hd, ha, -⟩ := wellFormed_parts h
  have h0 := ha _ (.head _)
  exact (assemble_raw (row := form1 (rdBooleans 2) .b64x2Build) rfl hd).trans (form1_ok (rdBooleans_raw h0))

theorem i8x16Build (d : Ident) (x : Lanes (Operand (BitVec 8)) 16) : Statement (.i8x16Build d x) := fun h => by
  obtain ⟨hd, ha, -⟩ := wellFormed_parts h
  have h0 := ha _ (.head _)
  exact (assemble_raw (row := form1 (rdScalars .i8 8 16) .i8x16Build) rfl hd).trans (form1_ok (rdScalars_raw (by decide) (by decide) h0))

theorem i16x8Build (d : Ident) (x : Lanes (Operand (BitVec 16)) 8) : Statement (.i16x8Build d x) := fun h => by
  obtain ⟨hd, ha, -⟩ := wellFormed_parts h
  have h0 := ha _ (.head _)
  exact (assemble_raw (row := form1 (rdScalars .i16 16 8) .i16x8Build) rfl hd).trans (form1_ok (rdScalars_raw (by decide) (by decide) h0))

theorem i32x4Build (d : Ident) (x : Lanes (Operand (BitVec 32)) 4) : Statement (.i32x4Build d x) := fun h => by
  obtain ⟨hd, ha, -⟩ := wellFormed_parts h
  have h0 := ha _ (.head _)
  exact (assemble_raw (row := form1 (rdScalars .i32 32 4) .i32x4Build) rfl hd).trans (form1_ok (rdScalars_raw (by decide) (by decide) h0))

theorem i64x2Build (d : Ident) (x : Lanes (Operand (BitVec 64)) 2) : Statement (.i64x2Build d x) := fun h => by
  obtain ⟨hd, ha, -⟩ := wellFormed_parts h
  have h0 := ha _ (.head _)
  exact (assemble_raw (row := form1 (rdScalars .i64 64 2) .i64x2Build) rfl hd).trans (form1_ok (rdScalars_raw (by decide) (by decide) h0))

theorem f32x4Build (d : Ident) (x : Lanes (Operand (BitVec 32)) 4) : Statement (.f32x4Build d x) := fun h => by
  obtain ⟨hd, ha, -⟩ := wellFormed_parts h
  have h0 := ha _ (.head _)
  exact (assemble_raw (row := form1 (rdScalars .f32 32 4) .f32x4Build) rfl hd).trans (form1_ok (rdScalars_raw (by decide) (by decide) h0))

theorem f64x2Build (d : Ident) (x : Lanes (Operand (BitVec 64)) 2) : Statement (.f64x2Build d x) := fun h => by
  obtain ⟨hd, ha, -⟩ := wellFormed_parts h
  have h0 := ha _ (.head _)
  exact (assemble_raw (row := form1 (rdScalars .f64 64 2) .f64x2Build) rfl hd).trans (form1_ok (rdScalars_raw (by decide) (by decide) h0))

theorem b8x16Splat (d : Ident) (x : Operand Bool) : Statement (.b8x16Splat d x) := fun h => by
  obtain ⟨hd, ha, -⟩ := wellFormed_parts h
  have h0 := ha _ (.head _)
  exact (assemble_raw (row := form1 rdBoolean .b8x16Splat) rfl hd).trans (form1_ok (rdBoolean_raw h0))

theorem b16x8Splat (d : Ident) (x : Operand Bool) : Statement (.b16x8Splat d x) := fun h => by
  obtain ⟨hd, ha, -⟩ := wellFormed_parts h
  have h0 := ha _ (.head _)
  exact (assemble_raw (row := form1 rdBoolean .b16x8Splat) rfl hd).trans (form1_ok (rdBoolean_raw h0))

theorem b32x4Splat (d : Ident) (x : Operand Bool) : Statement (.b32x4Splat d x) := fun h => by
  obtain ⟨hd, ha, -⟩ := wellFormed_parts h
  have h0 := ha _ (.head _)
  exact (assemble_raw (row := form1 rdBoolean .b32x4Splat) rfl hd).trans (form1_ok (rdBoolean_raw h0))

theorem b64x2Splat (d : Ident) (x : Operand Bool) : Statement (.b64x2Splat d x) := fun h => by
  obtain ⟨hd, ha, -⟩ := wellFormed_parts h
  have h0 := ha _ (.head _)
  exact (assemble_raw (row := form1 rdBoolean .b64x2Splat) rfl hd).trans (form1_ok (rdBoolean_raw h0))

theorem i8x16Splat (d : Ident) (x : Operand (BitVec 8)) : Statement (.i8x16Splat d x) := fun h => by
  obtain ⟨hd, ha, -⟩ := wellFormed_parts h
  have h0 := ha _ (.head _)
  exact (assemble_raw (row := form1 (rdScalar .i8 8) .i8x16Splat) rfl hd).trans (form1_ok (rdScalar_raw (by decide) (by decide) h0))

theorem i16x8Splat (d : Ident) (x : Operand (BitVec 16)) : Statement (.i16x8Splat d x) := fun h => by
  obtain ⟨hd, ha, -⟩ := wellFormed_parts h
  have h0 := ha _ (.head _)
  exact (assemble_raw (row := form1 (rdScalar .i16 16) .i16x8Splat) rfl hd).trans (form1_ok (rdScalar_raw (by decide) (by decide) h0))

theorem i32x4Splat (d : Ident) (x : Operand (BitVec 32)) : Statement (.i32x4Splat d x) := fun h => by
  obtain ⟨hd, ha, -⟩ := wellFormed_parts h
  have h0 := ha _ (.head _)
  exact (assemble_raw (row := form1 (rdScalar .i32 32) .i32x4Splat) rfl hd).trans (form1_ok (rdScalar_raw (by decide) (by decide) h0))

theorem i64x2Splat (d : Ident) (x : Operand (BitVec 64)) : Statement (.i64x2Splat d x) := fun h => by
  obtain ⟨hd, ha, -⟩ := wellFormed_parts h
  have h0 := ha _ (.head _)
  exact (assemble_raw (row := form1 (rdScalar .i64 64) .i64x2Splat) rfl hd).trans (form1_ok (rdScalar_raw (by decide) (by decide) h0))

theorem f32x4Splat (d : Ident) (x : Operand (BitVec 32)) : Statement (.f32x4Splat d x) := fun h => by
  obtain ⟨hd, ha, -⟩ := wellFormed_parts h
  have h0 := ha _ (.head _)
  exact (assemble_raw (row := form1 (rdScalar .f32 32) .f32x4Splat) rfl hd).trans (form1_ok (rdScalar_raw (by decide) (by decide) h0))

theorem f64x2Splat (d : Ident) (x : Operand (BitVec 64)) : Statement (.f64x2Splat d x) := fun h => by
  obtain ⟨hd, ha, -⟩ := wellFormed_parts h
  have h0 := ha _ (.head _)
  exact (assemble_raw (row := form1 (rdScalar .f64 64) .f64x2Splat) rfl hd).trans (form1_ok (rdScalar_raw (by decide) (by decide) h0))

theorem b8x16ExtractLane (d : Ident) (a : Operand (Lanes Bool 16)) (i : Fin 16) : Statement (.b8x16ExtractLane d a i) := fun h => by
  obtain ⟨hd, ha, -⟩ := wellFormed_parts h
  have h0 := ha _ (.head _)
  exact (assemble_raw (row := form2 (rdMask 16) (rdIndex 16) .b8x16ExtractLane) rfl hd).trans (form2_ok (rdMask_raw h0) (rdIndex_raw (by decide) _))

theorem b16x8ExtractLane (d : Ident) (a : Operand (Lanes Bool 8)) (i : Fin 8) : Statement (.b16x8ExtractLane d a i) := fun h => by
  obtain ⟨hd, ha, -⟩ := wellFormed_parts h
  have h0 := ha _ (.head _)
  exact (assemble_raw (row := form2 (rdMask 8) (rdIndex 8) .b16x8ExtractLane) rfl hd).trans (form2_ok (rdMask_raw h0) (rdIndex_raw (by decide) _))

theorem b32x4ExtractLane (d : Ident) (a : Operand (Lanes Bool 4)) (i : Fin 4) : Statement (.b32x4ExtractLane d a i) := fun h => by
  obtain ⟨hd, ha, -⟩ := wellFormed_parts h
  have h0 := ha _ (.head _)
  exact (assemble_raw (row := form2 (rdMask 4) (rdIndex 4) .b32x4ExtractLane) rfl hd).trans (form2_ok (rdMask_raw h0) (rdIndex_raw (by decide) _))

theorem b64x2ExtractLane (d : Ident) (a : Operand (Lanes Bool 2)) (i : Fin 2) : Statement (.b64x2ExtractLane d a i) := fun h => by
  obtain ⟨hd, ha, -⟩ := wellFormed_parts h
  have h0 := ha _ (.head _)
  exact (assemble_raw (row := form2 (rdMask 2) (rdIndex 2) .b64x2ExtractLane) rfl hd).trans (form2_ok (rdMask_raw h0) (rdIndex_raw (by decide) _))

theorem i8x16ExtractLane (d : Ident) (a : VOperand) (i : Fin 16) : Statement (.i8x16ExtractLane d a i) := fun h => by
  obtain ⟨hd, ha, -⟩ := wellFormed_parts h
  have h0 := ha _ (.head _)
  exact (assemble_raw (row := form2 rdVector (rdIndex 16) .i8x16ExtractLane) rfl hd).trans (form2_ok (rdVector_raw h0) (rdIndex_raw (by decide) _))

theorem i16x8ExtractLane (d : Ident) (a : VOperand) (i : Fin 8) : Statement (.i16x8ExtractLane d a i) := fun h => by
  obtain ⟨hd, ha, -⟩ := wellFormed_parts h
  have h0 := ha _ (.head _)
  exact (assemble_raw (row := form2 rdVector (rdIndex 8) .i16x8ExtractLane) rfl hd).trans (form2_ok (rdVector_raw h0) (rdIndex_raw (by decide) _))

theorem i32x4ExtractLane (d : Ident) (a : VOperand) (i : Fin 4) : Statement (.i32x4ExtractLane d a i) := fun h => by
  obtain ⟨hd, ha, -⟩ := wellFormed_parts h
  have h0 := ha _ (.head _)
  exact (assemble_raw (row := form2 rdVector (rdIndex 4) .i32x4ExtractLane) rfl hd).trans (form2_ok (rdVector_raw h0) (rdIndex_raw (by decide) _))

theorem i64x2ExtractLane (d : Ident) (a : VOperand) (i : Fin 2) : Statement (.i64x2ExtractLane d a i) := fun h => by
  obtain ⟨hd, ha, -⟩ := wellFormed_parts h
  have h0 := ha _ (.head _)
  exact (assemble_raw (row := form2 rdVector (rdIndex 2) .i64x2ExtractLane) rfl hd).trans (form2_ok (rdVector_raw h0) (rdIndex_raw (by decide) _))

theorem f32x4ExtractLane (d : Ident) (a : VOperand) (i : Fin 4) : Statement (.f32x4ExtractLane d a i) := fun h => by
  obtain ⟨hd, ha, -⟩ := wellFormed_parts h
  have h0 := ha _ (.head _)
  exact (assemble_raw (row := form2 rdVector (rdIndex 4) .f32x4ExtractLane) rfl hd).trans (form2_ok (rdVector_raw h0) (rdIndex_raw (by decide) _))

theorem f64x2ExtractLane (d : Ident) (a : VOperand) (i : Fin 2) : Statement (.f64x2ExtractLane d a i) := fun h => by
  obtain ⟨hd, ha, -⟩ := wellFormed_parts h
  have h0 := ha _ (.head _)
  exact (assemble_raw (row := form2 rdVector (rdIndex 2) .f64x2ExtractLane) rfl hd).trans (form2_ok (rdVector_raw h0) (rdIndex_raw (by decide) _))

theorem b8x16ReplaceLane (d : Ident) (a : Operand (Lanes Bool 16)) (i : Fin 16) (x : Operand Bool) : Statement (.b8x16ReplaceLane d a i x) := fun h => by
  obtain ⟨hd, ha, -⟩ := wellFormed_parts h
  have h0 := ha _ (.head _)
  have h2 := ha _ (.tail _ (.tail _ (.head _)))
  exact (assemble_raw (row := form3 (rdMask 16) (rdIndex 16) rdBoolean .b8x16ReplaceLane) rfl hd).trans (form3_ok (rdMask_raw h0) (rdIndex_raw (by decide) _) (rdBoolean_raw h2))

theorem b16x8ReplaceLane (d : Ident) (a : Operand (Lanes Bool 8)) (i : Fin 8) (x : Operand Bool) : Statement (.b16x8ReplaceLane d a i x) := fun h => by
  obtain ⟨hd, ha, -⟩ := wellFormed_parts h
  have h0 := ha _ (.head _)
  have h2 := ha _ (.tail _ (.tail _ (.head _)))
  exact (assemble_raw (row := form3 (rdMask 8) (rdIndex 8) rdBoolean .b16x8ReplaceLane) rfl hd).trans (form3_ok (rdMask_raw h0) (rdIndex_raw (by decide) _) (rdBoolean_raw h2))

theorem b32x4ReplaceLane (d : Ident) (a : Operand (Lanes Bool 4)) (i : Fin 4) (x : Operand Bool) : Statement (.b32x4ReplaceLane d a i x) := fun h => by
  obtain ⟨hd, ha, -⟩ := wellFormed_parts h
  have h0 := ha _ (.head _)
  have h2 := ha _ (.tail _ (.tail _ (.head _)))
  exact (assemble_raw (row := form3 (rdMask 4) (rdIndex 4) rdBoolean .b32x4ReplaceLane) rfl hd).trans (form3_ok (rdMask_raw h0) (rdIndex_raw (by decide) _) (rdBoolean_raw h2))

theorem b64x2ReplaceLane (d : Ident) (a : Operand (Lanes Bool 2)) (i : Fin 2) (x : Operand Bool) : Statement (.b64x2ReplaceLane d a i x) := fun h => by
  obtain ⟨hd, ha, -⟩ := wellFormed_parts h
  have h0 := ha _ (.head _)
  have h2 := ha _ (.tail _ (.tail _ (.head _)))
  exact (assemble_raw (row := form3 (rdMask 2) (rdIndex 2) rdBoolean .b64x2ReplaceLane) rfl hd).trans (form3_ok (rdMask_raw h0) (rdIndex_raw (by decide) _) (rdBoolean_raw h2))

theorem i8x16ReplaceLane (d : Ident) (a : VOperand) (i : Fin 16) (x : Operand (BitVec 8)) : Statement (.i8x16ReplaceLane d a i x) := fun h => by
  obtain ⟨hd, ha, -⟩ := wellFormed_parts h
  have h0 := ha _ (.head _)
  have h2 := ha _ (.tail _ (.tail _ (.head _)))
  exact (assemble_raw (row := form3 rdVector (rdIndex 16) (rdScalar .i8 8) .i8x16ReplaceLane) rfl hd).trans (form3_ok (rdVector_raw h0) (rdIndex_raw (by decide) _) (rdScalar_raw (by decide) (by decide) h2))

theorem i16x8ReplaceLane (d : Ident) (a : VOperand) (i : Fin 8) (x : Operand (BitVec 16)) : Statement (.i16x8ReplaceLane d a i x) := fun h => by
  obtain ⟨hd, ha, -⟩ := wellFormed_parts h
  have h0 := ha _ (.head _)
  have h2 := ha _ (.tail _ (.tail _ (.head _)))
  exact (assemble_raw (row := form3 rdVector (rdIndex 8) (rdScalar .i16 16) .i16x8ReplaceLane) rfl hd).trans (form3_ok (rdVector_raw h0) (rdIndex_raw (by decide) _) (rdScalar_raw (by decide) (by decide) h2))

theorem i32x4ReplaceLane (d : Ident) (a : VOperand) (i : Fin 4) (x : Operand (BitVec 32)) : Statement (.i32x4ReplaceLane d a i x) := fun h => by
  obtain ⟨hd, ha, -⟩ := wellFormed_parts h
  have h0 := ha _ (.head _)
  have h2 := ha _ (.tail _ (.tail _ (.head _)))
  exact (assemble_raw (row := form3 rdVector (rdIndex 4) (rdScalar .i32 32) .i32x4ReplaceLane) rfl hd).trans (form3_ok (rdVector_raw h0) (rdIndex_raw (by decide) _) (rdScalar_raw (by decide) (by decide) h2))

theorem i64x2ReplaceLane (d : Ident) (a : VOperand) (i : Fin 2) (x : Operand (BitVec 64)) : Statement (.i64x2ReplaceLane d a i x) := fun h => by
  obtain ⟨hd, ha, -⟩ := wellFormed_parts h
  have h0 := ha _ (.head _)
  have h2 := ha _ (.tail _ (.tail _ (.head _)))
  exact (assemble_raw (row := form3 rdVector (rdIndex 2) (rdScalar .i64 64) .i64x2ReplaceLane) rfl hd).trans (form3_ok (rdVector_raw h0) (rdIndex_raw (by decide) _) (rdScalar_raw (by decide) (by decide) h2))

theorem f32x4ReplaceLane (d : Ident) (a : VOperand) (i : Fin 4) (x : Operand (BitVec 32)) : Statement (.f32x4ReplaceLane d a i x) := fun h => by
  obtain ⟨hd, ha, -⟩ := wellFormed_parts h
  have h0 := ha _ (.head _)
  have h2 := ha _ (.tail _ (.tail _ (.head _)))
  exact (assemble_raw (row := form3 rdVector (rdIndex 4) (rdScalar .f32 32) .f32x4ReplaceLane) rfl hd).trans (form3_ok (rdVector_raw h0) (rdIndex_raw (by decide) _) (rdScalar_raw (by decide) (by decide) h2))

theorem f64x2ReplaceLane (d : Ident) (a : VOperand) (i : Fin 2) (x : Operand (BitVec 64)) : Statement (.f64x2ReplaceLane d a i x) := fun h => by
  obtain ⟨hd, ha, -⟩ := wellFormed_parts h
  have h0 := ha _ (.head _)
  have h2 := ha _ (.tail _ (.tail _ (.head _)))
  exact (assemble_raw (row := form3 rdVector (rdIndex 2) (rdScalar .f64 64) .f64x2ReplaceLane) rfl hd).trans (form3_ok (rdVector_raw h0) (rdIndex_raw (by decide) _) (rdScalar_raw (by decide) (by decide) h2))

theorem v8x16Select (d : Ident) (s : Operand (Lanes Bool 16)) (t : VOperand) (f : VOperand) : Statement (.v8x16Select d s t f) := fun h => by
  obtain ⟨hd, ha, -⟩ := wellFormed_parts h
  have h0 := ha _ (.head _)
  have h1 := ha _ (.tail _ (.head _))
  have h2 := ha _ (.tail _ (.tail _ (.head _)))
  exact (assemble_raw (row := form3 (rdMask 16) rdVector rdVector .v8x16Select) rfl hd).trans (form3_ok (rdMask_raw h0) (rdVector_raw h1) (rdVector_raw h2))

theorem v16x8Select (d : Ident) (s : Operand (Lanes Bool 8)) (t : VOperand) (f : VOperand) : Statement (.v16x8Select d s t f) := fun h => by
  obtain ⟨hd, ha, -⟩ := wellFormed_parts h
  have h0 := ha _ (.head _)
  have h1 := ha _ (.tail _ (.head _))
  have h2 := ha _ (.tail _ (.tail _ (.head _)))
  exact (assemble_raw (row := form3 (rdMask 8) rdVector rdVector .v16x8Select) rfl hd).trans (form3_ok (rdMask_raw h0) (rdVector_raw h1) (rdVector_raw h2))

theorem v32x4Select (d : Ident) (s : Operand (Lanes Bool 4)) (t : VOperand) (f : VOperand) : Statement (.v32x4Select d s t f) := fun h => by
  obtain ⟨hd, ha, -⟩ := wellFormed_parts h
  have h0 := ha _ (.head _)
  have h1 := ha _ (.tail _ (.head _))
  have h2 := ha _ (.tail _ (.tail _ (.head _)))
  exact (assemble_raw (row := form3 (rdMask 4) rdVector rdVector .v32x4Select) rfl hd).trans (form3_ok (rdMask_raw h0) (rdVector_raw h1) (rdVector_raw h2))

theorem v64x2Select (d : Ident) (s : Operand (Lanes Bool 2)) (t : VOperand) (f : VOperand) : Statement (.v64x2Select d s t f) := fun h => by
  obtain ⟨hd, ha, -⟩ := wellFormed_parts h
  have h0 := ha _ (.head _)
  have h1 := ha _ (.tail _ (.head _))
  have h2 := ha _ (.tail _ (.tail _ (.head _)))
  exact (assemble_raw (row := form3 (rdMask 2) rdVector rdVector .v64x2Select) rfl hd).trans (form3_ok (rdMask_raw h0) (rdVector_raw h1) (rdVector_raw h2))

theorem v8x16Swizzle (d : Ident) (a : VOperand) (s : Lanes (Fin 16) 16) : Statement (.v8x16Swizzle d a s) := fun h => by
  obtain ⟨hd, ha, -⟩ := wellFormed_parts h
  have h0 := ha _ (.head _)
  exact (assemble_raw (row := form2 rdVector (rdIndices 16 16) .v8x16Swizzle) rfl hd).trans (form2_ok (rdVector_raw h0) (rdIndices_raw (by decide) _))

theorem v16x8Swizzle (d : Ident) (a : VOperand) (s : Lanes (Fin 8) 8) : Statement (.v16x8Swizzle d a s) := fun h => by
  obtain ⟨hd, ha, -⟩ := wellFormed_parts h
  have h0 := ha _ (.head _)
  exact (assemble_raw (row := form2 rdVector (rdIndices 8 8) .v16x8Swizzle) rfl hd).trans (form2_ok (rdVector_raw h0) (rdIndices_raw (by decide) _))

theorem v32x4Swizzle (d : Ident) (a : VOperand) (s : Lanes (Fin 4) 4) : Statement (.v32x4Swizzle d a s) := fun h => by
  obtain ⟨hd, ha, -⟩ := wellFormed_parts h
  have h0 := ha _ (.head _)
  exact (assemble_raw (row := form2 rdVector (rdIndices 4 4) .v32x4Swizzle) rfl hd).trans (form2_ok (rdVector_raw h0) (rdIndices_raw (by decide) _))

theorem v64x2Swizzle (d : Ident) (a : VOperand) (s : Lanes (Fin 2) 2) : Statement (.v64x2Swizzle d a s) := fun h => by
  obtain ⟨hd, ha, -⟩ := wellFormed_parts h
  have h0 := ha _ (.head _)
  exact (assemble_raw (row := form2 rdVector (rdIndices 2 2) .v64x2Swizzle) rfl hd).trans (form2_ok (rdVector_raw h0) (rdIndices_raw (by decide) _))

theorem v8x16Shuffle (d : Ident) (a : VOperand) (b : VOperand) (s : Lanes (Fin 32) 16) : Statement (.v8x16Shuffle d a b s) := fun h => by
  obtain ⟨hd, ha, -⟩ := wellFormed_parts h
  have h0 := ha _ (.head _)
  have h1 := ha _ (.tail _ (.head _))
  exact (assemble_raw (row := form3 rdVector rdVector (rdIndices 32 16) .v8x16Shuffle) rfl hd).trans (form3_ok (rdVector_raw h0) (rdVector_raw h1) (rdIndices_raw (by decide) _))

theorem v16x8Shuffle (d : Ident) (a : VOperand) (b : VOperand) (s : Lanes (Fin 16) 8) : Statement (.v16x8Shuffle d a b s) := fun h => by
  obtain ⟨hd, ha, -⟩ := wellFormed_parts h
  have h0 := ha _ (.head _)
  have h1 := ha _ (.tail _ (.head _))
  exact (assemble_raw (row := form3 rdVector rdVector (rdIndices 16 8) .v16x8Shuffle) rfl hd).trans (form3_ok (rdVector_raw h0) (rdVector_raw h1) (rdIndices_raw (by decide) _))

theorem v32x4Shuffle (d : Ident) (a : VOperand) (b : VOperand) (s : Lanes (Fin 8) 4) : Statement (.v32x4Shuffle d a b s) := fun h => by
  obtain ⟨hd, ha, -⟩ := wellFormed_parts h
  have h0 := ha _ (.head _)
  have h1 := ha _ (.tail _ (.head _))
  exact (assemble_raw (row := form3 rdVector rdVector (rdIndices 8 4) .v32x4Shuffle) rfl hd).trans (form3_ok (rdVector_raw h0) (rdVector_raw h1) (rdIndices_raw (by decide) _))

theorem v64x2Shuffle (d : Ident) (a : VOperand) (b : VOperand) (s : Lanes (Fin 4) 2) : Statement (.v64x2Shuffle d a b s) := fun h => by
  obtain ⟨hd, ha, -⟩ := wellFormed_parts h
  have h0 := ha _ (.head _)
  have h1 := ha _ (.tail _ (.head _))
  exact (assemble_raw (row := form3 rdVector rdVector (rdIndices 4 2) .v64x2Shuffle) rfl hd).trans (form3_ok (rdVector_raw h0) (rdVector_raw h1) (rdIndices_raw (by decide) _))

theorem i8x16Add (d : Ident) (a : VOperand) (b : VOperand) : Statement (.i8x16Add d a b) := fun h => by
  obtain ⟨hd, ha, -⟩ := wellFormed_parts h
  have h0 := ha _ (.head _)
  have h1 := ha _ (.tail _ (.head _))
  exact (assemble_raw (row := form2 rdVector rdVector .i8x16Add) rfl hd).trans (form2_ok (rdVector_raw h0) (rdVector_raw h1))

theorem i16x8Add (d : Ident) (a : VOperand) (b : VOperand) : Statement (.i16x8Add d a b) := fun h => by
  obtain ⟨hd, ha, -⟩ := wellFormed_parts h
  have h0 := ha _ (.head _)
  have h1 := ha _ (.tail _ (.head _))
  exact (assemble_raw (row := form2 rdVector rdVector .i16x8Add) rfl hd).trans (form2_ok (rdVector_raw h0) (rdVector_raw h1))

theorem i32x4Add (d : Ident) (a : VOperand) (b : VOperand) : Statement (.i32x4Add d a b) := fun h => by
  obtain ⟨hd, ha, -⟩ := wellFormed_parts h
  have h0 := ha _ (.head _)
  have h1 := ha _ (.tail _ (.head _))
  exact (assemble_raw (row := form2 rdVector rdVector .i32x4Add) rfl hd).trans (form2_ok (rdVector_raw h0) (rdVector_raw h1))

theorem i64x2Add (d : Ident) (a : VOperand) (b : VOperand) : Statement (.i64x2Add d a b) := fun h => by
  obtain ⟨hd, ha, -⟩ := wellFormed_parts h
  have h0 := ha _ (.head _)
  have h1 := ha _ (.tail _ (.head _))
  exact (assemble_raw (row := form2 rdVector rdVector .i64x2Add) rfl hd).trans (form2_ok (rdVector_raw h0) (rdVector_raw h1))

theorem i8x16Sub (d : Ident) (a : VOperand) (b : VOperand) : Statement (.i8x16Sub d a b) := fun h => by
  obtain ⟨hd, ha, -⟩ := wellFormed_parts h
  have h0 := ha _ (.head _)
  have h1 := ha _ (.tail _ (.head _))
  exact (assemble_raw (row := form2 rdVector rdVector .i8x16Sub) rfl hd).trans (form2_ok (rdVector_raw h0) (rdVector_raw h1))

theorem i16x8Sub (d : Ident) (a : VOperand) (b : VOperand) : Statement (.i16x8Sub d a b) := fun h => by
  obtain ⟨hd, ha, -⟩ := wellFormed_parts h
  have h0 := ha _ (.head _)
  have h1 := ha _ (.tail _ (.head _))
  exact (assemble_raw (row := form2 rdVector rdVector .i16x8Sub) rfl hd).trans (form2_ok (rdVector_raw h0) (rdVector_raw h1))

theorem i32x4Sub (d : Ident) (a : VOperand) (b : VOperand) : Statement (.i32x4Sub d a b) := fun h => by
  obtain ⟨hd, ha, -⟩ := wellFormed_parts h
  have h0 := ha _ (.head _)
  have h1 := ha _ (.tail _ (.head _))
  exact (assemble_raw (row := form2 rdVector rdVector .i32x4Sub) rfl hd).trans (form2_ok (rdVector_raw h0) (rdVector_raw h1))

theorem i64x2Sub (d : Ident) (a : VOperand) (b : VOperand) : Statement (.i64x2Sub d a b) := fun h => by
  obtain ⟨hd, ha, -⟩ := wellFormed_parts h
  have h0 := ha _ (.head _)
  have h1 := ha _ (.tail _ (.head _))
  exact (assemble_raw (row := form2 rdVector rdVector .i64x2Sub) rfl hd).trans (form2_ok (rdVector_raw h0) (rdVector_raw h1))

theorem i8x16Mul (d : Ident) (a : VOperand) (b : VOperand) : Statement (.i8x16Mul d a b) := fun h => by
  obtain ⟨hd, ha, -⟩ := wellFormed_parts h
  have h0 := ha _ (.head _)
  have h1 := ha _ (.tail _ (.head _))
  exact (assemble_raw (row := form2 rdVector rdVector .i8x16Mul) rfl hd).trans (form2_ok (rdVector_raw h0) (rdVector_raw h1))

theorem i16x8Mul (d : Ident) (a : VOperand) (b : VOperand) : Statement (.i16x8Mul d a b) := fun h => by
  obtain ⟨hd, ha, -⟩ := wellFormed_parts h
  have h0 := ha _ (.head _)
  have h1 := ha _ (.tail _ (.head _))
  exact (assemble_raw (row := form2 rdVector rdVector .i16x8Mul) rfl hd).trans (form2_ok (rdVector_raw h0) (rdVector_raw h1))

theorem i32x4Mul (d : Ident) (a : VOperand) (b : VOperand) : Statement (.i32x4Mul d a b) := fun h => by
  obtain ⟨hd, ha, -⟩ := wellFormed_parts h
  have h0 := ha _ (.head _)
  have h1 := ha _ (.tail _ (.head _))
  exact (assemble_raw (row := form2 rdVector rdVector .i32x4Mul) rfl hd).trans (form2_ok (rdVector_raw h0) (rdVector_raw h1))

theorem i64x2Mul (d : Ident) (a : VOperand) (b : VOperand) : Statement (.i64x2Mul d a b) := fun h => by
  obtain ⟨hd, ha, -⟩ := wellFormed_parts h
  have h0 := ha _ (.head _)
  have h1 := ha _ (.tail _ (.head _))
  exact (assemble_raw (row := form2 rdVector rdVector .i64x2Mul) rfl hd).trans (form2_ok (rdVector_raw h0) (rdVector_raw h1))

theorem i8x16Neg (d : Ident) (a : VOperand) : Statement (.i8x16Neg d a) := fun h => by
  obtain ⟨hd, ha, -⟩ := wellFormed_parts h
  have h0 := ha _ (.head _)
  exact (assemble_raw (row := form1 rdVector .i8x16Neg) rfl hd).trans (form1_ok (rdVector_raw h0))

theorem i16x8Neg (d : Ident) (a : VOperand) : Statement (.i16x8Neg d a) := fun h => by
  obtain ⟨hd, ha, -⟩ := wellFormed_parts h
  have h0 := ha _ (.head _)
  exact (assemble_raw (row := form1 rdVector .i16x8Neg) rfl hd).trans (form1_ok (rdVector_raw h0))

theorem i32x4Neg (d : Ident) (a : VOperand) : Statement (.i32x4Neg d a) := fun h => by
  obtain ⟨hd, ha, -⟩ := wellFormed_parts h
  have h0 := ha _ (.head _)
  exact (assemble_raw (row := form1 rdVector .i32x4Neg) rfl hd).trans (form1_ok (rdVector_raw h0))

theorem i64x2Neg (d : Ident) (a : VOperand) : Statement (.i64x2Neg d a) := fun h => by
  obtain ⟨hd, ha, -⟩ := wellFormed_parts h
  have h0 := ha _ (.head _)
  exact (assemble_raw (row := form1 rdVector .i64x2Neg) rfl hd).trans (form1_ok (rdVector_raw h0))

theorem s8x16AddSaturate (d : Ident) (a : VOperand) (b : VOperand) : Statement (.s8x16AddSaturate d a b) := fun h => by
  obtain ⟨hd, ha, -⟩ := wellFormed_parts h
  have h0 := ha _ (.head _)
  have h1 := ha _ (.tail _ (.head _))
  exact (assemble_raw (row := form2 rdVector rdVector .s8x16AddSaturate) rfl hd).trans (form2_ok (rdVector_raw h0) (rdVector_raw h1))

theorem s16x8AddSaturate (d : Ident) (a : VOperand) (b : VOperand) : Statement (.s16x8AddSaturate d a b) := fun h => by
  obtain ⟨hd, ha, -⟩ := wellFormed_parts h
  have h0 := ha _ (.head _)
  have h1 := ha _ (.tail _ (.head _))
  exact (assemble_raw (row := form2 rdVector rdVector .s16x8AddSaturate) rfl hd).trans (form2_ok (rdVector_raw h0) (rdVector_raw h1))

theorem u8x16AddSaturate (d : Ident) (a : VOperand) (b : VOperand) : Statement (.u8x16AddSaturate d a b) := fun h => by
  obtain ⟨hd, ha, -⟩ := wellFormed_parts h
  have h0 := ha _ (.head _)
  have h1 := ha _ (.tail _ (.head _))
  exact (assemble_raw (row := form2 rdVector rdVector .u8x16AddSaturate) rfl hd).trans (form2_ok (rdVector_raw h0) (rdVector_raw h1))

theorem u16x8AddSaturate (d : Ident) (a : VOperand) (b : VOperand) : Statement (.u16x8AddSaturate d a b) := fun h => by
  obtain ⟨hd, ha, -⟩ := wellFormed_parts h
  have h0 := ha _ (.head _)
  have h1 := ha _ (.tail _ (.head _))
  exact (assemble_raw (row := form2 rdVector rdVector .u16x8AddSaturate) rfl hd).trans (form2_ok (rdVector_raw h0) (rdVector_raw h1))

theorem s8x16SubSaturate (d : Ident) (a : VOperand) (b : VOperand) : Statement (.s8x16SubSaturate d a b) := fun h => by
  obtain ⟨hd, ha, -⟩ := wellFormed_parts h
  have h0 := ha _ (.head _)
  have h1 := ha _ (.tail _ (.head _))
  exact (assemble_raw (row := form2 rdVector rdVector .s8x16SubSaturate) rfl hd).trans (form2_ok (rdVector_raw h0) (rdVector_raw h1))

theorem s16x8SubSaturate (d : Ident) (a : VOperand) (b : VOperand) : Statement (.s16x8SubSaturate d a b) := fun h => by
  obtain ⟨hd, ha, -⟩ := wellFormed_parts h
  have h0 := ha _ (.head _)
  have h1 := ha _ (.tail _ (.head _))
  exact (assemble_raw (row := form2 rdVector rdVector .s16x8SubSaturate) rfl hd).trans (form2_ok (rdVector_raw h0) (rdVector_raw h1))

theorem u8x16SubSaturate (d : Ident) (a : VOperand) (b : VOperand) : Statement (.u8x16SubSaturate d a b) := fun h => by
  obtain ⟨hd, ha, -⟩ := wellFormed_parts h
  have h0 := ha _ (.head _)
  have h1 := ha _ (.tail _ (.head _))
  exact (assemble_raw (row := form2 rdVector rdVector .u8x16SubSaturate) rfl hd).trans (form2_ok (rdVector_raw h0) (rdVector_raw h1))

theorem u16x8SubSaturate (d : Ident) (a : VOperand) (b : VOperand) : Statement (.u16x8SubSaturate d a b) := fun h => by
  obtain ⟨hd, ha, -⟩ := wellFormed_parts h
  have h0 := ha _ (.head _)
  have h1 := ha _ (.tail _ (.head _))
  exact (assemble_raw (row := form2 rdVector rdVector .u16x8SubSaturate) rfl hd).trans (form2_ok (rdVector_raw h0) (rdVector_raw h1))

theorem i8x16ShiftLeftByScalar (d : Ident) (a : VOperand) (y : Operand (BitVec 8)) : Statement (.i8x16ShiftLeftByScalar d a y) := fun h => by
  obtain ⟨hd, ha, -⟩ := wellFormed_parts h
  have h0 := ha _ (.head _)
  have h1 := ha _ (.tail _ (.head _))
  exact (assemble_raw (row := form2 rdVector (rdScalar .i8 8) .i8x16ShiftLeftByScalar) rfl hd).trans (form2_ok (rdVector_raw h0) (rdScalar_raw (by decide) (by decide) h1))

theorem i16x8ShiftLeftByScalar (d : Ident) (a : VOperand) (y : Operand (BitVec 8)) : Statement (.i16x8ShiftLeftByScalar d a y) := fun h => by
  obtain ⟨hd, ha, -⟩ := wellFormed_parts h
  have h0 := ha _ (.head _)
  have h1 := ha _ (.tail _ (.head _))
  exact (assemble_raw (row := form2 rdVector (rdScalar .i8 8) .i16x8ShiftLeftByScalar) rfl hd).trans (form2_ok (rdVector_raw h0) (rdScalar_raw (by decide) (by decide) h1))

theorem i32x4ShiftLeftByScalar (d : Ident) (a : VOperand) (y : Operand (BitVec 8)) : Statement (.i32x4ShiftLeftByScalar d a y) := fun h => by
  obtain ⟨hd, ha, -⟩ := wellFormed_parts h
  have h0 := ha _ (.head _)
  have h1 := ha _ (.tail _ (.head _))
  exact (assemble_raw (row := form2 rdVector (rdScalar .i8 8) .i32x4ShiftLeftByScalar) rfl hd).trans (form2_ok (rdVector_raw h0) (rdScalar_raw (by decide) (by decide) h1))

theorem i64x2ShiftLeftByScalar (d : Ident) (a : VOperand) (y : Operand (BitVec 8)) : Statement (.i64x2ShiftLeftByScalar d a y) := fun h => by
  obtain ⟨hd, ha, -⟩ := wellFormed_parts h
  have h0 := ha _ (.head _)
  have h1 := ha _ (.tail _ (.head _))
  exact (assemble_raw (row := form2 rdVector (rdScalar .i8 8) .i64x2ShiftLeftByScalar) rfl hd).trans (form2_ok (rdVector_raw h0) (rdScalar_raw (by decide) (by decide) h1))

theorem s8x16ShiftRightByScalar (d : Ident) (a : VOperand) (y : Operand (BitVec 8)) : Statement (.s8x16ShiftRightByScalar d a y) := fun h => by
  obtain ⟨hd, ha, -⟩ := wellFormed_parts h
  have h0 := ha _ (.head _)
  have h1 := ha _ (.tail _ (.head _))
  exact (assemble_raw (row := form2 rdVector (rdScalar .i8 8) .s8x16ShiftRightByScalar) rfl hd).trans (form2_ok (rdVector_raw h0) (rdScalar_raw (by decide) (by decide) h1))

theorem s16x8ShiftRightByScalar (d : Ident) (a : VOperand) (y : Operand (BitVec 8)) : Statement (.s16x8ShiftRightByScalar d a y) := fun h => by
  obtain ⟨hd, ha, -⟩ := wellFormed_parts h
  have h0 := ha _ (.head _)
  have h1 := ha _ (.tail _ (.head _))
  exact (assemble_raw (row := form2 rdVector (rdScalar .i8 8) .s16x8ShiftRightByScalar) rfl hd).trans (form2_ok (rdVector_raw h0) (rdScalar_raw (by decide) (by decide) h1))

theorem s32x4ShiftRightByScalar (d : Ident) (a : VOperand) (y : Operand (BitVec 8)) : Statement (.s32x4ShiftRightByScalar d a y) := fun h => by
  obtain ⟨hd, ha, -⟩ := wellFormed_parts h
  have h0 := ha _ (.head _)
  have h1 := ha _ (.tail _ (.head _))
  exact (assemble_raw (row := form2 rdVector (rdScalar .i8 8) .s32x4ShiftRightByScalar) rfl hd).trans (form2_ok (rdVector_raw h0) (rdScalar_raw (by decide) (by decide) h1))

theorem s64x2ShiftRightByScalar (d : Ident) (a : VOperand) (y : Operand (BitVec 8)) : Statement (.s64x2ShiftRightByScalar d a y) := fun h => by
  obtain ⟨hd, ha, -⟩ := wellFormed_parts h
  have h0 := ha _ (.head _)
  have h1 := ha _ (.tail _ (.head _))
  exact (assemble_raw (row := form2 rdVector (rdScalar .i8 8) .s64x2ShiftRightByScalar) rfl hd).trans (form2_ok (rdVector_raw h0) (rdScalar_raw (by decide) (by decide) h1))

theorem u8x16ShiftRightByScalar (d : Ident) (a : VOperand) (y : Operand (BitVec 8)) : Statement (.u8x16ShiftRightByScalar d a y) := fun h => by
  obtain ⟨hd, ha, -⟩ := wellFormed_parts h
  have h0 := ha _ (.head _)
  have h1 := ha _ (.tail _ (.head _))
  exact (assemble_raw (row := form2 rdVector (rdScalar .i8 8) .u8x16ShiftRightByScalar) rfl hd).trans (form2_ok (rdVector_raw h0) (rdScalar_raw (by decide) (by decide) h1))

theorem u16x8ShiftRightByScalar (d : Ident) (a : VOperand) (y : Operand (BitVec 8)) : Statement (.u16x8ShiftRightByScalar d a y) := fun h => by
  obtain ⟨hd, ha, -⟩ := wellFormed_parts h
  have h0 := ha _ (.head _)
  have h1 := ha _ (.tail _ (.head _))
  exact (assemble_raw (row := form2 rdVector (rdScalar .i8 8) .u16x8ShiftRightByScalar) rfl hd).trans (form2_ok (rdVector_raw h0) (rdScalar_raw (by decide) (by decide) h1))

theorem u32x4ShiftRightByScalar (d : Ident) (a : VOperand) (y : Operand (BitVec 8)) : Statement (.u32x4ShiftRightByScalar d a y) := fun h => by
  obtain ⟨hd, ha, -⟩ := wellFormed_parts h
  have h0 := ha _ (.head _)
  have h1 := ha _ (.tail _ (.head _))
  exact (assemble_raw (row := form2 rdVector (rdScalar .i8 8) .u32x4ShiftRightByScalar) rfl hd).trans (form2_ok (rdVector_raw h0) (rdScalar_raw (by decide) (by decide) h1))

theorem u64x2ShiftRightByScalar (d : Ident) (a : VOperand) (y : Operand (BitVec 8)) : Statement (.u64x2ShiftRightByScalar d a y) := fun h => by
  obtain ⟨hd, ha, -⟩ := wellFormed_parts h
  have h0 := ha _ (.head _)
  have h1 := ha _ (.tail _ (.head _))
  exact (assemble_raw (row := form2 rdVector (rdScalar .i8 8) .u64x2ShiftRightByScalar) rfl hd).trans (form2_ok (rdVector_raw h0) (rdScalar_raw (by decide) (by decide) h1))

theorem b8x16And (d : Ident) (a : Operand (Lanes Bool 16)) (b : Operand (Lanes Bool 16)) : Statement (.b8x16And d a b) := fun h => by
  obtain ⟨hd, ha, -⟩ := wellFormed_parts h
  have h0 := ha _ (.head _)
  have h1 := ha _ (.tail _ (.head _))
  exact (assemble_raw (row := form2 (rdMask 16) (rdMask 16) .b8x16And) rfl hd).trans (form2_ok (rdMask_raw h0) (rdMask_raw h1))

theorem b16x8And (d : Ident) (a : Operand (Lanes Bool 8)) (b : Operand (Lanes Bool 8)) : Statement (.b16x8And d a b) := fun h => by
  obtain ⟨hd, ha, -⟩ := wellFormed_parts h
  have h0 := ha _ (.head _)
  have h1 := ha _ (.tail _ (.head _))
  exact (assemble_raw (row := form2 (rdMask 8) (rdMask 8) .b16x8And) rfl hd).trans (form2_ok (rdMask_raw h0) (rdMask_raw h1))

theorem b32x4And (d : Ident) (a : Operand (Lanes Bool 4)) (b : Operand (Lanes Bool 4)) : Statement (.b32x4And d a b) := fun h => by
  obtain ⟨hd, ha, -⟩ := wellFormed_parts h
  have h0 := ha _ (.head _)
  have h1 := ha _ (.tail _ (.head _))
  exact (assemble_raw (row := form2 (rdMask 4) (rdMask 4) .b32x4And) rfl hd).trans (form2_ok (rdMask_raw h0) (rdMask_raw h1))

theorem b64x2And (d : Ident) (a : Operand (Lanes Bool 2)) (b : Operand (Lanes Bool 2)) : Statement (.b64x2And d a b) := fun h => by
  obtain ⟨hd, ha, -⟩ := wellFormed_parts h
  have h0 := ha _ (.head _)
  have h1 := ha _ (.tail _ (.head _))
  exact (assemble_raw (row := form2 (rdMask 2) (rdMask 2) .b64x2And) rfl hd).trans (form2_ok (rdMask_raw h0) (rdMask_raw h1))

theorem b8x16Or (d : Ident) (a : Operand (Lanes Bool 16)) (b : Operand (Lanes Bool 16)) : Statement (.b8x16Or d a b) := fun h => by
  obtain ⟨hd, ha, -⟩ := wellFormed_parts h
  have h0 := ha _ (.head _)
  have h1 := ha _ (.tail _ (.head _))
  exact (assemble_raw (row := form2 (rdMask 16) (rdMask 16) .b8x16Or) rfl hd).trans (form2_ok (rdMask_raw h0) (rdMask_raw h1))

theorem b16x8Or (d : Ident) (a : Operand (Lanes Bool 8)) (b : Operand (Lanes Bool 8)) : Statement (.b16x8Or d a b) := fun h => by
  obtain ⟨hd, ha, -⟩ := wellFormed_parts h
  have h0 := ha _ (.head _)
  have h1 := ha _ (.tail _ (.head _))
  exact (assemble_raw (row := form2 (rdMask 8) (rdMask 8) .b16x8Or) rfl hd).trans (form2_ok (rdMask_raw h0) (rdMask_raw h1))

theorem b32x4Or (d : Ident) (a : Operand (Lanes Bool 4)) (b : Operand (Lanes Bool 4)) : Statement (.b32x4Or d a b) := fun h => by
  obtain ⟨hd, ha, -⟩ := wellFormed_parts h
  have h0 := ha _ (.head _)
  have h1 := ha _ (.tail _ (.head _))
  exact (assemble_raw (row := form2 (rdMask 4) (rdMask 4) .b32x4Or) rfl hd).trans (form2_ok (rdMask_raw h0) (rdMask_raw h1))

theorem b64x2Or (d : Ident) (a : Operand (Lanes Bool 2)) (b : Operand (Lanes Bool 2)) : Statement (.b64x2Or d a b) := fun h => by
  obtain ⟨hd, ha, -⟩ := wellFormed_parts h
  have h0 := ha _ (.head _)
  have h1 := ha _ (.tail _ (.head _))
  exact (assemble_raw (row := form2 (rdMask 2) (rdMask 2) .b64x2Or) rfl hd).trans (form2_ok (rdMask_raw h0) (rdMask_raw h1))

theorem b8x16Xor (d : Ident) (a : Operand (Lanes Bool 16)) (b : Operand (Lanes Bool 16)) : Statement (.b8x16Xor d a b) := fun h => by
  obtain ⟨hd, ha, -⟩ := wellFormed_parts h
  have h0 := ha _ (.head _)
  have h1 := ha _ (.tail _ (.head _))
  exact (assemble_raw (row := form2 (rdMask 16) (rdMask 16) .b8x16Xor) rfl hd).trans (form2_ok (rdMask_raw h0) (rdMask_raw h1))

theorem b16x8Xor (d : Ident) (a : Operand (Lanes Bool 8)) (b : Operand (Lanes Bool 8)) : Statement (.b16x8Xor d a b) := fun h => by
  obtain ⟨hd, ha, -⟩ := wellFormed_parts h
  have h0 := ha _ (.head _)
  have h1 := ha _ (.tail _ (.head _))
  exact (assemble_raw (row := form2 (rdMask 8) (rdMask 8) .b16x8Xor) rfl hd).trans (form2_ok (rdMask_raw h0) (rdMask_raw h1))

theorem b32x4Xor (d : Ident) (a : Operand (Lanes Bool 4)) (b : Operand (Lanes Bool 4)) : Statement (.b32x4Xor d a b) := fun h => by
  obtain ⟨hd, ha, -⟩ := wellFormed_parts h
  have h0 := ha _ (.head _)
  have h1 := ha _ (.tail _ (.head _))
  exact (assemble_raw (row := form2 (rdMask 4) (rdMask 4) .b32x4Xor) rfl hd).trans (form2_ok (rdMask_raw h0) (rdMask_raw h1))

theorem b64x2Xor (d : Ident) (a : Operand (Lanes Bool 2)) (b : Operand (Lanes Bool 2)) : Statement (.b64x2Xor d a b) := fun h => by
  obtain ⟨hd, ha, -⟩ := wellFormed_parts h
  have h0 := ha _ (.head _)
  have h1 := ha _ (.tail _ (.head _))
  exact (assemble_raw (row := form2 (rdMask 2) (rdMask 2) .b64x2Xor) rfl hd).trans (form2_ok (rdMask_raw h0) (rdMask_raw h1))

theorem b8x16Not (d : Ident) (a : Operand (Lanes Bool 16)) : Statement (.b8x16Not d a) := fun h => by
  obtain ⟨hd, ha, -⟩ := wellFormed_parts h
  have h0 := ha _ (.head _)
  exact (assemble_raw (row := form1 (rdMask 16) .b8x16Not) rfl hd).trans (form1_ok (rdMask_raw h0))

theorem b16x8Not (d : Ident) (a : Operand (Lanes Bool 8)) : Statement (.b16x8Not d a) := fun h => by
  obtain ⟨hd, ha, -⟩ := wellFormed_parts h
  have h0 := ha _ (.head _)
  exact (assemble_raw (row := form1 (rdMask 8) .b16x8Not) rfl hd).trans (form1_ok (rdMask_raw h0))

theorem b32x4Not (d : Ident) (a : Operand (Lanes Bool 4)) : Statement (.b32x4Not d a) := fun h => by
  obtain ⟨hd, ha, -⟩ := wellFormed_parts h
  have h0 := ha _ (.head _)
  exact (assemble_raw (row := form1 (rdMask 4) .b32x4Not) rfl hd).trans (form1_ok (rdMask_raw h0))

theorem b64x2Not (d : Ident) (a : Operand (Lanes Bool 2)) : Statement (.b64x2Not d a) := fun h => by
  obtain ⟨hd, ha, -⟩ := wellFormed_parts h
  have h0 := ha _ (.head _)
  exact (assemble_raw (row := form1 (rdMask 2) .b64x2Not) rfl hd).trans (form1_ok (rdMask_raw h0))

theorem v128And (d : Ident) (a : VOperand) (b : VOperand) : Statement (.v128And d a b) := fun h => by
  obtain ⟨hd, ha, -⟩ := wellFormed_parts h
  have h0 := ha _ (.head _)
  have h1 := ha _ (.tail _ (.head _))
  exact (assemble_raw (row := form2 rdVector rdVector .v128And) rfl hd).trans (form2_ok (rdVector_raw h0) (rdVector_raw h1))

theorem v128Or (d : Ident) (a : VOperand) (b : VOperand) : Statement (.v128Or d a b) := fun h => by
  obtain ⟨hd, ha, -⟩ := wellFormed_parts h
  have h0 := ha _ (.head _)
  have h1 := ha _ (.tail _ (.head _))
  exact (assemble_raw (row := form2 rdVector rdVector .v128Or) rfl hd).trans (form2_ok (rdVector_raw h0) (rdVector_raw h1))

theorem v128Xor (d : Ident) (a : VOperand) (b : VOperand) : Statement (.v128Xor d a b) := fun h => by
  obtain ⟨hd, ha, -⟩ := wellFormed_parts h
  have h0 := ha _ (.head _)
  have h1 := ha _ (.tail _ (.head _))
  exact (assemble_raw (row := form2 rdVector rdVector .v128Xor) rfl hd).trans (form2_ok (rdVector_raw h0) (rdVector_raw h1))

theorem v128Not (d : Ident) (a : VOperand) : Statement (.v128Not d a) := fun h => by
  obtain ⟨hd, ha, -⟩ := wellFormed_parts h
  have h0 := ha _ (.head _)
  exact (assemble_raw (row := form1 rdVector .v128Not) rfl hd).trans (form1_ok (rdVector_raw h0))

theorem b8x16AnyTrue (d : Ident) (a : Operand (Lanes Bool 16)) : Statement (.b8x16AnyTrue d a) := fun h => by
  obtain ⟨hd, ha, -⟩ := wellFormed_parts h
  have h0 := ha _ (.head _)
  exact (assemble_raw (row := form1 (rdMask 16) .b8x16AnyTrue) rfl hd).trans (form1_ok (rdMask_raw h0))

theorem b16x8AnyTrue (d : Ident) (a : Operand (Lanes Bool 8)) : Statement (.b16x8AnyTrue d a) := fun h => by
  obtain ⟨hd, ha, -⟩ := wellFormed_parts h
  have h0 := ha _ (.head _)
  exact (assemble_raw (row := form1 (rdMask 8) .b16x8AnyTrue) rfl hd).trans (form1_ok (rdMask_raw h0))

theorem b32x4AnyTrue (d : Ident) (a : Operand (Lanes Bool 4)) : Statement (.b32x4AnyTrue d a) := fun h => by
  obtain ⟨hd, ha, -⟩ := wellFormed_parts h
  have h0 := ha _ (.head _)
  exact (assemble_raw (row := form1 (rdMask 4) .b32x4AnyTrue) rfl hd).trans (form1_ok (rdMask_raw h0))

theorem b64x2AnyTrue (d : Ident) (a : Operand (Lanes Bool 2)) : Statement (.b64x2AnyTrue d a) := fun h => by
  obtain ⟨hd, ha, -⟩ := wellFormed_parts h
  have h0 := ha _ (.head _)
  exact (assemble_raw (row := form1 (rdMask 2) .b64x2AnyTrue) rfl hd).trans (form1_ok (rdMask_raw h0))

theorem b8x16AllTrue (d : Ident) (a : Operand (Lanes Bool 16)) : Statement (.b8x16AllTrue d a) := fun h => by
  obtain ⟨hd, ha, -⟩ := wellFormed_parts h
  have h0 := ha _ (.head _)
  exact (assemble_raw (row := form1 (rdMask 16) .b8x16AllTrue) rfl hd).trans (form1_ok (rdMask_raw h0))

theorem b16x8AllTrue (d : Ident) (a : Operand (Lanes Bool 8)) : Statement (.b16x8AllTrue d a) := fun h => by
  obtain ⟨hd, ha, -⟩ := wellFormed_parts h
  have h0 := ha _ (.head _)
  exact (assemble_raw (row := form1 (rdMask 8) .b16x8AllTrue) rfl hd).trans (form1_ok (rdMask_raw h0))

theorem b32x4AllTrue (d : Ident) (a : Operand (Lanes Bool 4)) : Statement (.b32x4AllTrue d a) := fun h => by
  obtain ⟨hd, ha, -⟩ := wellFormed_parts h
  have h0 := ha _ (.head _)
  exact (assemble_raw (row := form1 (rdMask 4) .b32x4AllTrue) rfl hd).trans (form1_ok (rdMask_raw h0))

theorem b64x2AllTrue (d : Ident) (a : Operand (Lanes Bool 2)) : Statement (.b64x2AllTrue d a) := fun h => by
  obtain ⟨hd, ha, -⟩ := wellFormed_parts h
  have h0 := ha _ (.head _)
  exact (assemble_raw (row := form1 (rdMask 2) .b64x2AllTrue) rfl hd).trans (form1_ok (rdMask_raw h0))

theorem i8x16Equal (d : Ident) (a : VOperand) (b : VOperand) : Statement (.i8x16Equal d a b) := fun h => by
  obtain ⟨hd, ha, -⟩ := wellFormed_parts h
  have h0 := ha _ (.head _)
  have h1 := ha _ (.tail _ (.head _))
  exact (assemble_raw (row := form2 rdVector rdVector .i8x16Equal) rfl hd).trans (form2_ok (rdVector_raw h0) (rdVector_raw h1))

theorem i16x8Equal (d : Ident) (a : VOperand) (b : VOperand) : Statement (.i16x8Equal d a b) := fun h => by
  obtain ⟨hd, ha, -⟩ := wellFormed_parts h
  have h0 := ha _ (.head _)
  have h1 := ha _ (.tail _ (.head _))
  exact (assemble_raw (row := form2 rdVector rdVector .i16x8Equal) rfl hd).trans (form2_ok (rdVector_raw h0) (rdVector_raw h1))

theorem i32x4Equal (d : Ident) (a : VOperand) (b : VOperand) : Statement (.i32x4Equal d a b) := fun h => by
  obtain ⟨hd, ha, -⟩ := wellFormed_parts h
  have h0 := ha _ (.head _)
  have h1 := ha _ (.tail _ (.head _))
  exact (assemble_raw (row := form2 rdVector rdVector .i32x4Equal) rfl hd).trans (form2_ok (rdVector_raw h0) (rdVector_raw h1))

theorem i64x2Equal (d : Ident) (a : VOperand) (b : VOperand) : Statement (.i64x2Equal d a b) := fun h => by
  obtain ⟨hd, ha, -⟩ := wellFormed_parts h
  have h0 := ha _ (.head _)
  have h1 := ha _ (.tail _ (.head _))
  exact (assemble_raw (row := form2 rdVector rdVector .i64x2Equal) rfl hd).trans (form2_ok (rdVector_raw h0) (rdVector_raw h1))

theorem f32x4Equal (d : Ident) (a : VOperand) (b : VOperand) : Statement (.f32x4Equal d a b) := fun h => by
  obtain ⟨hd, ha, -⟩ := wellFormed_parts h
  have h0 := ha _ (.head _)
  have h1 := ha _ (.tail _ (.head _))
  exact (assemble_raw (row := form2 rdVector rdVector .f32x4Equal) rfl hd).trans (form2_ok (rdVector_raw h0) (rdVector_raw h1))

theorem f64x2Equal (d : Ident) (a : VOperand) (b : VOperand) : Statement (.f64x2Equal d a b) := fun h => by
  obtain ⟨hd, ha, -⟩ := wellFormed_parts h
  have h0 := ha _ (.head _)
  have h1 := ha _ (.tail _ (.head _))
  exact (assemble_raw (row := form2 rdVector rdVector .f64x2Equal) rfl hd).trans (form2_ok (rdVector_raw h0) (rdVector_raw h1))

theorem i8x16NotEqual (d : Ident) (a : VOperand) (b : VOperand) : Statement (.i8x16NotEqual d a b) := fun h => by
  obtain ⟨hd, ha, -⟩ := wellFormed_parts h
  have h0 := ha _ (.head _)
  have h1 := ha _ (.tail _ (.head _))
  exact (assemble_raw (row := form2 rdVector rdVector .i8x16NotEqual) rfl hd).trans (form2_ok (rdVector_raw h0) (rdVector_raw h1))

theorem i16x8NotEqual (d : Ident) (a : VOperand) (b : VOperand) : Statement (.i16x8NotEqual d a b) := fun h => by
  obtain ⟨hd, ha, -⟩ := wellFormed_parts h
  have h0 := ha _ (.head _)
  have h1 := ha _ (.tail _ (.head _))
  exact (assemble_raw (row := form2 rdVector rdVector .i16x8NotEqual) rfl hd).trans (form2_ok (rdVector_raw h0) (rdVector_raw h1))

theorem i32x4NotEqual (d : Ident) (a : VOperand) (b : VOperand) : Statement (.i32x4NotEqual d a b) := fun h => by
  obtain ⟨hd, ha, -⟩ := wellFormed_parts h
  have h0 := ha _ (.head _)
  have h1 := ha _ (.tail _ (.head _))
  exact (assemble_raw (row := form2 rdVector rdVector .i32x4NotEqual) rfl hd).trans (form2_ok (rdVector_raw h0) (rdVector_raw h1))

theorem i64x2NotEqual (d : Ident) (a : VOperand) (b : VOperand) : Statement (.i64x2NotEqual d a b) := fun h => by
  obtain ⟨hd, ha, -⟩ := wellFormed_parts h
  have h0 := ha _ (.head _)
  have h1 := ha _ (.tail _ (.head _))
  exact (assemble_raw (row := form2 rdVector rdVector .i64x2NotEqual) rfl hd).trans (form2_ok (rdVector_raw h0) (rdVector_raw h1))

theorem f32x4NotEqual (d : Ident) (a : VOperand) (b : VOperand) : Statement (.f32x4NotEqual d a b) := fun h => by
  obtain ⟨hd, ha, -⟩ := wellFormed_parts h
  have h0 := ha _ (.head _)
  have h1 := ha _ (.tail _ (.head _))
  exact (assemble_raw (row := form2 rdVector rdVector .f32x4NotEqual) rfl hd).trans (form2_ok (rdVector_raw h0) (rdVector_raw h1))

theorem f64x2NotEqual (d : Ident) (a : VOperand) (b : VOperand) : Statement (.f64x2NotEqual d a b) := fun h => by
  obtain ⟨hd, ha, -⟩ := wellFormed_parts h
  have h0 := ha _ (.head _)
  have h1 := ha _ (.tail _ (.head _))
  exact (assemble_raw (row := form2 rdVector rdVector .f64x2NotEqual) rfl hd).trans (form2_ok (rdVector_raw h0) (rdVector_raw h1))

theorem s8x16LessThan (d : Ident) (a : VOperand) (b : VOperand) : Statement (.s8x16LessThan d a b) := fun h => by
  obtain ⟨hd, ha, -⟩ := wellFormed_parts h
  have h0 := ha _ (.head _)
  have h1 := ha _ (.tail _ (.head _))
  exact (assemble_raw (row := form2 rdVector rdVector .s8x16LessThan) rfl hd).trans (form2_ok (rdVector_raw h0) (rdVector_raw h1))

theorem s16x8LessThan (d : Ident) (a : VOperand) (b : VOperand) : Statement (.s16x8LessThan d a b) := fun h => by
  obtain ⟨hd, ha, -⟩ := wellFormed_parts h
  have h0 := ha _ (.head _)
  have h1 := ha _ (.tail _ (.head _))
  exact (assemble_raw (row := form2 rdVector rdVector .s16x8LessThan) rfl hd).trans (form2_ok (rdVector_raw h0) (rdVector_raw h1))

theorem s32x4LessThan (d : Ident) (a : VOperand) (b : VOperand) : Statement (.s32x4LessThan d a b) := fun h => by
  obtain ⟨hd, ha, -⟩ := wellFormed_parts h
  have h0 := ha _ (.head _)
  have h1 := ha _ (.tail _ (.head _))
  exact (assemble_raw (row := form2 rdVector rdVector .s32x4LessThan) rfl hd).trans (form2_ok (rdVector_raw h0) (rdVector_raw h1))

theorem s64x2LessThan (d : Ident) (a : VOperand) (b : VOperand) : Statement (.s64x2LessThan d a b) := fun h => by
  obtain ⟨hd, ha, -⟩ := wellFormed_parts h
  have h0 := ha _ (.head _)
  have h1 := ha _ (.tail _ (.head _))
  exact (assemble_raw (row := form2 rdVector rdVector .s64x2LessThan) rfl hd).trans (form2_ok (rdVector_raw h0) (rdVector_raw h1))

theorem u8x16LessThan (d : Ident) (a : VOperand) (b : VOperand) : Statement (.u8x16LessThan d a b) := fun h => by
  obtain ⟨hd, ha, -⟩ := wellFormed_parts h
  have h0 := ha _ (.head _)
  have h1 := ha _ (.tail _ (.head _))
  exact (assemble_raw (row := form2 rdVector rdVector .u8x16LessThan) rfl hd).trans (form2_ok (rdVector_raw h0) (rdVector_raw h1))

theorem u16x8LessThan (d : Ident) (a : VOperand) (b : VOperand) : Statement (.u16x8LessThan d a b) := fun h => by
  obtain ⟨hd, ha, -⟩ := wellFormed_parts h
  have h0 := ha _ (.head _)
  have h1 := ha _ (.tail _ (.head _))
  exact (assemble_raw (row := form2 rdVector rdVector .u16x8LessThan) rfl hd).trans (form2_ok (rdVector_raw h0) (rdVector_raw h1))

theorem u32x4LessThan (d : Ident) (a : VOperand) (b : VOperand) : Statement (.u32x4LessThan d a b) := fun h => by
  obtain ⟨hd, ha, -⟩ := wellFormed_parts h
  have h0 := ha _ (.head _)
  have h1 := ha _ (.tail _ (.head _))
  exact (assemble_raw (row := form2 rdVector rdVector .u32x4LessThan) rfl hd).trans (form2_ok (rdVector_raw h0) (rdVector_raw h1))

theorem u64x2LessThan (d : Ident) (a : VOperand) (b : VOperand) : Statement (.u64x2LessThan d a b) := fun h => by
  obtain ⟨hd, ha, -⟩ := wellFormed_parts h
  have h0 := ha _ (.head _)
  have h1 := ha _ (.tail _ (.head _))
  exact (assemble_raw (row := form2 rdVector rdVector .u64x2LessThan) rfl hd).trans (form2_ok (rdVector_raw h0) (rdVector_raw h1))

theorem f32x4LessThan (d : Ident) (a : VOperand) (b : VOperand) : Statement (.f32x4LessThan d a b) := fun h => by
  obtain ⟨hd, ha, -⟩ := wellFormed_parts h
  have h0 := ha _ (.head _)
  have h1 := ha _ (.tail _ (.head _))
  exact (assemble_raw (row := form2 rdVector rdVector .f32x4LessThan) rfl hd).trans (form2_ok (rdVector_raw h0) (rdVector_raw h1))

theorem f64x2LessThan (d : Ident) (a : VOperand) (b : VOperand) : Statement (.f64x2LessThan d a b) := fun h => by
  obtain ⟨hd, ha, -⟩ := wellFormed_parts h
  have h0 := ha _ (.head _)
  have h1 := ha _ (.tail _ (.head _))
  exact (assemble_raw (row := form2 rdVector rdVector .f64x2LessThan) rfl hd).trans (form2_ok (rdVector_raw h0) (rdVector_raw h1))

theorem s8x16LessThanOrEqual (d : Ident) (a : VOperand) (b : VOperand) : Statement (.s8x16LessThanOrEqual d a b) := fun h => by
  obtain ⟨hd, ha, -⟩ := wellFormed_parts h
  have h0 := ha _ (.head _)
  have h1 := ha _ (.tail _ (.head _))
  exact (assemble_raw (row := form2 rdVector rdVector .s8x16LessThanOrEqual) rfl hd).trans (form2_ok (rdVector_raw h0) (rdVector_raw h1))

theorem s16x8LessThanOrEqual (d : Ident) (a : VOperand) (b : VOperand) : Statement (.s16x8LessThanOrEqual d a b) := fun h => by
  obtain ⟨hd, ha, -⟩ := wellFormed_parts h
  have h0 := ha _ (.head _)
  have h1 := ha _ (.tail _ (.head _))
  exact (assemble_raw (row := form2 rdVector rdVector .s16x8LessThanOrEqual) rfl hd).trans (form2_ok (rdVector_raw h0) (rdVector_raw h1))

theorem s32x4LessThanOrEqual (d : Ident) (a : VOperand) (b : VOperand) : Statement (.s32x4LessThanOrEqual d a b) := fun h => by
  obtain ⟨hd, ha, -⟩ := wellFormed_parts h
  have h0 := ha _ (.head _)
  have h1 := ha _ (.tail _ (.head _))
  exact (assemble_raw (row := form2 rdVector rdVector .s32x4LessThanOrEqual) rfl hd).trans (form2_ok (rdVector_raw h0) (rdVector_raw h1))

theorem s64x2LessThanOrEqual (d : Ident) (a : VOperand) (b : VOperand) : Statement (.s64x2LessThanOrEqual d a b) := fun h => by
  obtain ⟨hd, ha, -⟩ := wellFormed_parts h
  have h0 := ha _ (.head _)
  have h1 := ha _ (.tail _ (.head _))
  exact (assemble_raw (row := form2 rdVector rdVector .s64x2LessThanOrEqual) rfl hd).trans (form2_ok (rdVector_raw h0) (rdVector_raw h1))

theorem u8x16LessThanOrEqual (d : Ident) (a : VOperand) (b : VOperand) : Statement (.u8x16LessThanOrEqual d a b) := fun h => by
  obtain ⟨hd, ha, -⟩ := wellFormed_parts h
  have h0 := ha _ (.head _)
  have h1 := ha _ (.tail _ (.head _))
  exact (assemble_raw (row := form2 rdVector rdVector .u8x16LessThanOrEqual) rfl hd).trans (form2_ok (rdVector_raw h0) (rdVector_raw h1))

theorem u16x8LessThanOrEqual (d : Ident) (a : VOperand) (b : VOperand) : Statement (.u16x8LessThanOrEqual d a b) := fun h => by
  obtain ⟨hd, ha, -⟩ := wellFormed_parts h
  have h0 := ha _ (.head _)
  have h1 := ha _ (.tail _ (.head _))
  exact (assemble_raw (row := form2 rdVector rdVector .u16x8LessThanOrEqual) rfl hd).trans (form2_ok (rdVector_raw h0) (rdVector_raw h1))

theorem u32x4LessThanOrEqual (d : Ident) (a : VOperand) (b : VOperand) : Statement (.u32x4LessThanOrEqual d a b) := fun h => by
  obtain ⟨hd, ha, -⟩ := wellFormed_parts h
  have h0 := ha _ (.head _)
  have h1 := ha _ (.tail _ (.head _))
  exact (assemble_raw (row := form2 rdVector rdVector .u32x4LessThanOrEqual) rfl hd).trans (form2_ok (rdVector_raw h0) (rdVector_raw h1))

theorem u64x2LessThanOrEqual (d : Ident) (a : VOperand) (b : VOperand) : Statement (.u64x2LessThanOrEqual d a b) := fun h => by
  obtain ⟨hd, ha, -⟩ := wellFormed_parts h
  have h0 := ha _ (.head _)
  have h1 := ha _ (.tail _ (.head _))
  exact (assemble_raw (row := form2 rdVector rdVector .u64x2LessThanOrEqual) rfl hd).trans (form2_ok (rdVector_raw h0) (rdVector_raw h1))

theorem f32x4LessThanOrEqual (d : Ident) (a : VOperand) (b : VOperand) : Statement (.f32x4LessThanOrEqual d a b) := fun h => by
  obtain ⟨hd, ha, -⟩ := wellFormed_parts h
  have h0 := ha _ (.head _)
  have h1 := ha _ (.tail _ (.head _))
  exact (assemble_raw (row := form2 rdVector rdVector .f32x4LessThanOrEqual) rfl hd).trans (form2_ok (rdVector_raw h0) (rdVector_raw h1))

theorem f64x2LessThanOrEqual (d : Ident) (a : VOperand) (b : VOperand) : Statement (.f64x2LessThanOrEqual d a b) := fun h => by
  obtain ⟨hd, ha, -⟩ := wellFormed_parts h
  have h0 := ha _ (.head _)
  have h1 := ha _ (.tail _ (.head _))
  exact (assemble_raw (row := form2 rdVector rdVector .f64x2LessThanOrEqual) rfl hd).trans (form2_ok (rdVector_raw h0) (rdVector_raw h1))

theorem s8x16GreaterThan (d : Ident) (a : VOperand) (b : VOperand) : Statement (.s8x16GreaterThan d a b) := fun h => by
  obtain ⟨hd, ha, -⟩ := wellFormed_parts h
  have h0 := ha _ (.head _)
  have h1 := ha _ (.tail _ (.head _))
  exact (assemble_raw (row := form2 rdVector rdVector .s8x16GreaterThan) rfl hd).trans (form2_ok (rdVector_raw h0) (rdVector_raw h1))

theorem s16x8GreaterThan (d : Ident) (a : VOperand) (b : VOperand) : Statement (.s16x8GreaterThan d a b) := fun h => by
  obtain ⟨hd, ha, -⟩ := wellFormed_parts h
  have h0 := ha _ (.head _)
  have h1 := ha _ (.tail _ (.head _))
  exact (assemble_raw (row := form2 rdVector rdVector .s16x8GreaterThan) rfl hd).trans (form2_ok (rdVector_raw h0) (rdVector_raw h1))

theorem s32x4GreaterThan (d : Ident) (a : VOperand) (b : VOperand) : Statement (.s32x4GreaterThan d a b) := fun h => by
  obtain ⟨hd, ha, -⟩ := wellFormed_parts h
  have h0 := ha _ (.head _)
  have h1 := ha _ (.tail _ (.head _))
  exact (assemble_raw (row := form2 rdVector rdVector .s32x4GreaterThan) rfl hd).trans (form2_ok (rdVector_raw h0) (rdVector_raw h1))

theorem s64x2GreaterThan (d : Ident) (a : VOperand) (b : VOperand) : Statement (.s64x2GreaterThan d a b) := fun h => by
  obtain ⟨hd, ha, -⟩ := wellFormed_parts h
  have h0 := ha _ (.head _)
  have h1 := ha _ (.tail _ (.head _))
  exact (assemble_raw (row := form2 rdVector rdVector .s64x2GreaterThan) rfl hd).trans (form2_ok (rdVector_raw h0) (rdVector_raw h1))

theorem u8x16GreaterThan (d : Ident) (a : VOperand) (b : VOperand) : Statement (.u8x16GreaterThan d a b) := fun h => by
  obtain ⟨hd, ha, -⟩ := wellFormed_parts h
  have h0 := ha _ (.head _)
  have h1 := ha _ (.tail _ (.head _))
  exact (assemble_raw (row := form2 rdVector rdVector .u8x16GreaterThan) rfl hd).trans (form2_ok (rdVector_raw h0) (rdVector_raw h1))

theorem u16x8GreaterThan (d : Ident) (a : VOperand) (b : VOperand) : Statement (.u16x8GreaterThan d a b) := fun h => by
  obtain ⟨hd, ha, -⟩ := wellFormed_parts h
  have h0 := ha _ (.head _)
  have h1 := ha _ (.tail _ (.head _))
  exact (assemble_raw (row := form2 rdVector rdVector .u16x8GreaterThan) rfl hd).trans (form2_ok (rdVector_raw h0) (rdVector_raw h1))

theorem u32x4GreaterThan (d : Ident) (a : VOperand) (b : VOperand) : Statement (.u32x4GreaterThan d a b) := fun h => by
  obtain ⟨hd, ha, -⟩ := wellFormed_parts h
  have h0 := ha _ (.head _)
  have h1 := ha _ (.tail _ (.head _))
  exact (assemble_raw (row := form2 rdVector rdVector .u32x4GreaterThan) rfl hd).trans (form2_ok (rdVector_raw h0) (rdVector_raw h1))

theorem u64x2GreaterThan (d : Ident) (a : VOperand) (b : VOperand) : Statement (.u64x2GreaterThan d a b) := fun h => by
  obtain ⟨hd, ha, -⟩ := wellFormed_parts h
  have h0 := ha _ (.head _)
  have h1 := ha _ (.tail _ (.head _))
  exact (assemble_raw (row := form2 rdVector rdVector .u64x2GreaterThan) rfl hd).trans (form2_ok (rdVector_raw h0) (rdVector_raw h1))

theorem f32x4GreaterThan (d : Ident) (a : VOperand) (b : VOperand) : Statement (.f32x4GreaterThan d a b) := fun h => by
  obtain ⟨hd, ha, -⟩ := wellFormed_parts h
  have h0 := ha _ (.head _)
  have h1 := ha _ (.tail _ (.head _))
  exact (assemble_raw (row := form2 rdVector rdVector .f32x4GreaterThan) rfl hd).trans (form2_ok (rdVector_raw h0) (rdVector_raw h1))

theorem f64x2GreaterThan (d : Ident) (a : VOperand) (b : VOperand) : Statement (.f64x2GreaterThan d a b) := fun h => by
  obtain ⟨hd, ha, -⟩ := wellFormed_parts h
  have h0 := ha _ (.head _)
  have h1 := ha _ (.tail _ (.head _))
  exact (assemble_raw (row := form2 rdVector rdVector .f64x2GreaterThan) rfl hd).trans (form2_ok (rdVector_raw h0) (rdVector_raw h1))

theorem s8x16GreaterThanOrEqual (d : Ident) (a : VOperand) (b : VOperand) : Statement (.s8x16GreaterThanOrEqual d a b) := fun h => by
  obtain ⟨hd, ha, -⟩ := wellFormed_parts h
  have h0 := ha _ (.head _)
  have h1 := ha _ (.tail _ (.head _))
  exact (assemble_raw (row := form2 rdVector rdVector .s8x16GreaterThanOrEqual) rfl hd).trans (form2_ok (rdVector_raw h0) (rdVector_raw h1))

theorem s16x8GreaterThanOrEqual (d : Ident) (a : VOperand) (b : VOperand) : Statement (.s16x8GreaterThanOrEqual d a b) := fun h => by
  obtain ⟨hd, ha, -⟩ := wellFormed_parts h
  have h0 := ha _ (.head _)
  have h1 := ha _ (.tail _ (.head _))
  exact (assemble_raw (row := form2 rdVector rdVector .s16x8GreaterThanOrEqual) rfl hd).trans (form2_ok (rdVector_raw h0) (rdVector_raw h1))

theorem s32x4GreaterThanOrEqual (d : Ident) (a : VOperand) (b : VOperand) : Statement (.s32x4GreaterThanOrEqual d a b) := fun h => by
  obtain ⟨hd, ha, -⟩ := wellFormed_parts h
  have h0 := ha _ (.head _)
  have h1 := ha _ (.tail _ (.head _))
  exact (assemble_raw (row := form2 rdVector rdVector .s32x4GreaterThanOrEqual) rfl hd).trans (form2_ok (rdVector_raw h0) (rdVector_raw h1))

theorem s64x2GreaterThanOrEqual (d : Ident) (a : VOperand) (b : VOperand) : Statement (.s64x2GreaterThanOrEqual d a b) := fun h => by
  obtain ⟨hd, ha, -⟩ := wellFormed_parts h
  have h0 := ha _ (.head _)
  have h1 := ha _ (.tail _ (.head _))
  exact (assemble_raw (row := form2 rdVector rdVector .s64x2GreaterThanOrEqual) rfl hd).trans (form2_ok (rdVector_raw h0) (rdVector_raw h1))

theorem u8x16GreaterThanOrEqual (d : Ident) (a : VOperand) (b : VOperand) : Statement (.u8x16GreaterThanOrEqual d a b) := fun h => by
  obtain ⟨hd, ha, -⟩ := wellFormed_parts h
  have h0 := ha _ (.head _)
  have h1 := ha _ (.tail _ (.head _))
  exact (assemble_raw (row := form2 rdVector rdVector .u8x16GreaterThanOrEqual) rfl hd).trans (form2_ok (rdVector_raw h0) (rdVector_raw h1))

theorem u16x8GreaterThanOrEqual (d : Ident) (a : VOperand) (b : VOperand) : Statement (.u16x8GreaterThanOrEqual d a b) := fun h => by
  obtain ⟨hd, ha, -⟩ := wellFormed_parts h
  have h0 := ha _ (.head _)
  have h1 := ha _ (.tail _ (.head _))
  exact (assemble_raw (row := form2 rdVector rdVector .u16x8GreaterThanOrEqual) rfl hd).trans (form2_ok (rdVector_raw h0) (rdVector_raw h1))

theorem u32x4GreaterThanOrEqual (d : Ident) (a : VOperand) (b : VOperand) : Statement (.u32x4GreaterThanOrEqual d a b) := fun h => by
  obtain ⟨hd, ha, -⟩ := wellFormed_parts h
  have h0 := ha _ (.head _)
  have h1 := ha _ (.tail _ (.head _))
  exact (assemble_raw (row := form2 rdVector rdVector .u32x4GreaterThanOrEqual) rfl hd).trans (form2_ok (rdVector_raw h0) (rdVector_raw h1))

theorem u64x2GreaterThanOrEqual (d : Ident) (a : VOperand) (b : VOperand) : Statement (.u64x2GreaterThanOrEqual d a b) := fun h => by
  obtain ⟨hd, ha, -⟩ := wellFormed_parts h
  have h0 := ha _ (.head _)
  have h1 := ha _ (.tail _ (.head _))
  exact (assemble_raw (row := form2 rdVector rdVector .u64x2GreaterThanOrEqual) rfl hd).trans (form2_ok (rdVector_raw h0) (rdVector_raw h1))

theorem f32x4GreaterThanOrEqual (d : Ident) (a : VOperand) (b : VOperand) : Statement (.f32x4GreaterThanOrEqual d a b) := fun h => by
  obtain ⟨hd, ha, -⟩ := wellFormed_parts h
  have h0 := ha _ (.head _)
  have h1 := ha _ (.tail _ (.head _))
  exact (assemble_raw (row := form2 rdVector rdVector .f32x4GreaterThanOrEqual) rfl hd).trans (form2_ok (rdVector_raw h0) (rdVector_raw h1))

theorem f64x2GreaterThanOrEqual (d : Ident) (a : VOperand) (b : VOperand) : Statement (.f64x2GreaterThanOrEqual d a b) := fun h => by
  obtain ⟨hd, ha, -⟩ := wellFormed_parts h
  have h0 := ha _ (.head _)
  have h1 := ha _ (.tail _ (.head _))
  exact (assemble_raw (row := form2 rdVector rdVector .f64x2GreaterThanOrEqual) rfl hd).trans (form2_ok (rdVector_raw h0) (rdVector_raw h1))

theorem v8x16Load (d : Ident) (mem : Ident) (addr : Nat) : Statement (.v8x16Load d mem addr) := fun h => by
  obtain ⟨hd, ha, -⟩ := wellFormed_parts h
  have h0 := ha _ (.head _)
  exact (assemble_raw (row := form2 rdName rdOffset .v8x16Load) rfl hd).trans (form2_ok (rdName_raw h0) (rdOffset_raw _))

theorem v16x8Load (d : Ident) (mem : Ident) (addr : Nat) : Statement (.v16x8Load d mem addr) := fun h => by
  obtain ⟨hd, ha, -⟩ := wellFormed_parts h
  have h0 := ha _ (.head _)
  exact (assemble_raw (row := form2 rdName rdOffset .v16x8Load) rfl hd).trans (form2_ok (rdName_raw h0) (rdOffset_raw _))

theorem v32x4Load (d : Ident) (mem : Ident) (addr : Nat) : Statement (.v32x4Load d mem addr) := fun h => by
  obtain ⟨hd, ha, -⟩ := wellFormed_parts h
  have h0 := ha _ (.head _)
  exact (assemble_raw (row := form2 rdName rdOffset .v32x4Load) rfl hd).trans (form2_ok (rdName_raw h0) (rdOffset_raw _))

theorem v64x2Load (d : Ident) (mem : Ident) (addr : Nat) : Statement (.v64x2Load d mem addr) := fun h => by
  obtain ⟨hd, ha, -⟩ := wellFormed_parts h
  have h0 := ha _ (.head _)
  exact (assemble_raw (row := form2 rdName rdOffset .v64x2Load) rfl hd).trans (form2_ok (rdName_raw h0) (rdOffset_raw _))

theorem v8x16Store (mem : Ident) (addr : Nat) (data : VOperand) : Statement (.v8x16Store mem addr data) := fun h => by
  obtain ⟨hd, ha, -⟩ := wellFormed_parts h
  have h0 := ha _ (.head _)
  have h2 := ha _ (.tail _ (.tail _ (.head _)))
  exact (assemble_raw (row := formStore .v8x16Store) rfl hd).trans (formStore_ok (rdName_raw h0) (rdOffset_raw _) (rdVector_raw h2))

theorem v16x8Store (mem : Ident) (addr : Nat) (data : VOperand) : Statement (.v16x8Store mem addr data) := fun h => by
  obtain ⟨hd, ha, -⟩ := wellFormed_parts h
  have h0 := ha _ (.head _)
  have h2 := ha _ (.tail _ (.tail _ (.head _)))
  exact (assemble_raw (row := formStore .v16x8Store) rfl hd).trans (formStore_ok (rdName_raw h0) (rdOffset_raw _) (rdVector_raw h2))

theorem v32x4Store (mem : Ident) (addr : Nat) (data : VOperand) : Statement (.v32x4Store mem addr data) := fun h => by
  obtain ⟨hd, ha, -⟩ := wellFormed_parts h
  have h0 := ha _ (.head _)
  have h2 := ha _ (.tail _ (.tail _ (.head _)))
  exact (assemble_raw (row := formStore .v32x4Store) rfl hd).trans (formStore_ok (rdName_raw h0) (rdOffset_raw _) (rdVector_raw h2))

theorem v64x2Store (mem : Ident) (addr : Nat) (data : VOperand) : Statement (.v64x2Store mem addr data) := fun h => by
  obtain ⟨hd, ha, -⟩ := wellFormed_parts h
  have h0 := ha _ (.head _)
  have h2 := ha _ (.tail _ (.tail _ (.head _)))
  exact (assemble_raw (row := formStore .v64x2Store) rfl hd).trans (formStore_ok (rdName_raw h0) (rdOffset_raw _) (rdVector_raw h2))

theorem v32x4Load1 (d : Ident) (mem : Ident) (addr : Nat) : Statement (.v32x4Load1 d mem addr) := fun h => by
  obtain ⟨hd, ha, -⟩ := wellFormed_parts h
  have h0 := ha _ (.head _)
  exact (assemble_raw (row := form2 rdName rdOffset .v32x4Load1) rfl hd).trans (form2_ok (rdName_raw h0) (rdOffset_raw _))

theorem v32x4Load2 (d : Ident) (mem : Ident) (addr : Nat) : Statement (.v32x4Load2 d mem addr) := fun h => by
  obtain ⟨hd, ha, -⟩ := wellFormed_parts h
  have h0 := ha _ (.head _)
  exact (assemble_raw (row := form2 rdName rdOffset .v32x4Load2) rfl hd).trans (form2_ok (rdName_raw h0) (rdOffset_raw _))

theorem v32x4Load3 (d : Ident) (mem : Ident) (addr : Nat) : Statement (.v32x4Load3 d mem addr) := fun h => by
  obtain ⟨hd, ha, -⟩ := wellFormed_parts h
  have h0 := ha _ (.head _)
  exact (assemble_raw (row := form2 rdName rdOffset .v32x4Load3) rfl hd).trans (form2_ok (rdName_raw h0) (rdOffset_raw _))

theorem v32x4Store1 (mem : Ident) (addr : Nat) (data : VOperand) : Statement (.v32x4Store1 mem addr data) := fun h => by
  obtain ⟨hd, ha, -⟩ := wellFormed_parts h
  have h0 := ha _ (.head _)
  have h2 := ha _ (.tail _ (.tail _ (.head _)))
  exact (assemble_raw (row := formStore .v32x4Store1) rfl hd).trans (formStore_ok (rdName_raw h0) (rdOffset_raw _) (rdVector_raw h2))

theorem v32x4Store2 (mem : Ident) (addr : Nat) (data : VOperand) : Statement (.v32x4Store2 mem addr data) := fun h => by
  obtain ⟨hd, ha, -⟩ := wellFormed_parts h
  have h0 := ha _ (.head _)
  have h2 := ha _ (.tail _ (.tail _ (.head _)))
  exact (assemble_raw (row := formStore .v32x4Store2) rfl hd).trans (formStore_ok (rdName_raw h0) (rdOffset_raw _) (rdVector_raw h2))

theorem v32x4Store3 (mem : Ident) (addr : Nat) (data : VOperand) : Statement (.v32x4Store3 mem addr data) := fun h => by
  obtain ⟨hd, ha, -⟩ := wellFormed_parts h
  have h0 := ha _ (.head _)
  have h2 := ha _ (.tail _ (.tail _ (.head _)))
  exact (assemble_raw (row := formStore .v32x4Store3) rfl hd).trans (formStore_ok (rdName_raw h0) (rdOffset_raw _) (rdVector_raw h2))

theorem f32x4Neg (d : Ident) (a : VOperand) : Statement (.f32x4Neg d a) := fun h => by
  obtain ⟨hd, ha, -⟩ := wellFormed_parts h
  have h0 := ha _ (.head _)
  exact (assemble_raw (row := form1 rdVector .f32x4Neg) rfl hd).trans (form1_ok (rdVector_raw h0))

theorem f64x2Neg (d : Ident) (a : VOperand) : Statement (.f64x2Neg d a) := fun h => by
  obtain ⟨hd, ha, -⟩ := wellFormed_parts h
  have h0 := ha _ (.head _)
  exact (assemble_raw (row := form1 rdVector .f64x2Neg) rfl hd).trans (form1_ok (rdVector_raw h0))

theorem f32x4Abs (d : Ident) (a : VOperand) : Statement (.f32x4Abs d a) := fun h => by
  obtain ⟨hd, ha, -⟩ := wellFormed_parts h
  have h0 := ha _ (.head _)
  exact (assemble_raw (row := form1 rdVector .f32x4Abs) rfl hd).trans (form1_ok (rdVector_raw h0))

theorem f64x2Abs (d : Ident) (a : VOperand) : Statement (.f64x2Abs d a) := fun h => by
  obtain ⟨hd, ha, -⟩ := wellFormed_parts h
  have h0 := ha _ (.head _)
  exact (assemble_raw (row := form1 rdVector .f64x2Abs) rfl hd).trans (form1_ok (rdVector_raw h0))

theorem f32x4Min (d : Ident) (a : VOperand) (b : VOperand) : Statement (.f32x4Min d a b) := fun h => by
  obtain ⟨hd, ha, -⟩ := wellFormed_parts h
  have h0 := ha _ (.head _)
  have h1 := ha _ (.tail _ (.head _))
  exact (assemble_raw (row := form2 rdVector rdVector .f32x4Min) rfl hd).trans (form2_ok (rdVector_raw h0) (rdVector_raw h1))

theorem f64x2Min (d : Ident) (a : VOperand) (b : VOperand) : Statement (.f64x2Min d a b) := fun h => by
  obtain ⟨hd, ha, -⟩ := wellFormed_parts h
  have h0 := ha _ (.head _)
  have h1 := ha _ (.tail _ (.head _))
  exact (assemble_raw (row := form2 rdVector rdVector .f64x2Min) rfl hd).trans (form2_ok (rdVector_raw h0) (rdVector_raw h1))

theorem f32x4Max (d : Ident) (a : VOperand) (b : VOperand) : Statement (.f32x4Max d a b) := fun h => by
  obtain ⟨hd, ha, -⟩ := wellFormed_parts h
  have h0 := ha _ (.head _)
  have h1 := ha _ (.tail _ (.head _))
  exact (assemble_raw (row := form2 rdVector rdVector .f32x4Max) rfl hd).trans (form2_ok (rdVector_raw h0) (rdVector_raw h1))

theorem f64x2Max (d : Ident) (a : VOperand) (b : VOperand) : Statement (.f64x2Max d a b) := fun h => by
  obtain ⟨hd, ha, -⟩ := wellFormed_parts h
  have h0 := ha _ (.head _)
  have h1 := ha _ (.tail _ (.head _))
  exact (assemble_raw (row := form2 rdVector rdVector .f64x2Max) rfl hd).trans (form2_ok (rdVector_raw h0) (rdVector_raw h1))

theorem f32x4MinNum (d : Ident) (a : VOperand) (b : VOperand) : Statement (.f32x4MinNum d a b) := fun h => by
  obtain ⟨hd, ha, -⟩ := wellFormed_parts h
  have h0 := ha _ (.head _)
  have h1 := ha _ (.tail _ (.head _))
  exact (assemble_raw (row := form2 rdVector rdVector .f32x4MinNum) rfl hd).trans (form2_ok (rdVector_raw h0) (rdVector_raw h1))

theorem f64x2MinNum (d : Ident) (a : VOperand) (b : VOperand) : Statement (.f64x2MinNum d a b) := fun h => by
  obtain ⟨hd, ha, -⟩ := wellFormed_parts h
  have h0 := ha _ (.head _)
  have h1 := ha _ (.tail _ (.head _))
  exact (assemble_raw (row := form2 rdVector rdVector .f64x2MinNum) rfl hd).trans (form2_ok (rdVector_raw h0) (rdVector_raw h1))

theorem f32x4MaxNum (d : Ident) (a : VOperand) (b : VOperand) : Statement (.f32x4MaxNum d a b) := fun h => by
  obtain ⟨hd, ha, -⟩ := wellFormed_parts h
  have h0 := ha _ (.head _)
  have h1 := ha _ (.tail _ (.head _))
  exact (assemble_raw (row := form2 rdVector rdVector .f32x4MaxNum) rfl hd).trans (form2_ok (rdVector_raw h0) (rdVector_raw h1))

theorem f64x2MaxNum (d : Ident) (a : VOperand) (b : VOperand) : Statement (.f64x2MaxNum d a b) := fun h => by
  obtain ⟨hd, ha, -⟩ := wellFormed_parts h
  have h0 := ha _ (.head _)
  have h1 := ha _ (.tail _ (.head _))
  exact (assemble_raw (row := form2 rdVector rdVector .f64x2MaxNum) rfl hd).trans (form2_ok (rdVector_raw h0) (rdVector_raw h1))

theorem f32x4Add (d : Ident) (a : VOperand) (b : VOperand) (rm : RoundingMode) : Statement (.f32x4Add d a b rm) := fun h => by
  obtain ⟨hd, ha, -⟩ := wellFormed_parts h
  have h0 := ha _ (.head _)
  have h1 := ha _ (.tail _ (.head _))
  exact (assemble_raw (row := form3 rdVector rdVector rdRounding .f32x4Add) rfl hd).trans (form3_ok (rdVector_raw h0) (rdVector_raw h1) (rdRounding_raw _))

theorem f64x2Add (d : Ident) (a : VOperand) (b : VOperand) (rm : RoundingMode) : Statement (.f64x2Add d a b rm) := fun h => by
  obtain ⟨hd, ha, -⟩ := wellFormed_parts h
  have h0 := ha _ (.head _)
  have h1 := ha _ (.tail _ (.head _))
  exact (assemble_raw (row := form3 rdVector rdVector rdRounding .f64x2Add) rfl hd).trans (form3_ok (rdVector_raw h0) (rdVector_raw h1) (rdRounding_raw _))

theorem f32x4Sub (d : Ident) (a : VOperand) (b : VOperand) (rm : RoundingMode) : Statement (.f32x4Sub d a b rm) := fun h => by
  obtain ⟨hd, ha, -⟩ := wellFormed_parts h
  have h0 := ha _ (.head _)
  have h1 := ha _ (.tail _ (.head _))
  exact (assemble_raw (row := form3 rdVector rdVector rdRounding .f32x4Sub) rfl hd).trans (form3_ok (rdVector_raw h0) (rdVector_raw h1) (rdRounding_raw _))

theorem f64x2Sub (d : Ident) (a : VOperand) (b : VOperand) (rm : RoundingMode) : Statement (.f64x2Sub d a b rm) := fun h => by
  obtain ⟨hd, ha, -⟩ := wellFormed_parts h
  have h0 := ha _ (.head _)
  have h1 := ha _ (.tail _ (.head _))
  exact (assemble_raw (row := form3 rdVector rdVector rdRounding .f64x2Sub) rfl hd).trans (form3_ok (rdVector_raw h0) (rdVector_raw h1) (rdRounding_raw _))

theorem f32x4Div (d : Ident) (a : VOperand) (b : VOperand) (rm : RoundingMode) : Statement (.f32x4Div d a b rm) := fun h => by
  obtain ⟨hd, ha, -⟩ := wellFormed_parts h
  have h0 := ha _ (.head _)
  have h1 := ha _ (.tail _ (.head _))
  exact (assemble_raw (row := form3 rdVector rdVector rdRounding .f32x4Div) rfl hd).trans (form3_ok (rdVector_raw h0) (rdVector_raw h1) (rdRounding_raw _))

theorem f64x2Div (d : Ident) (a : VOperand) (b : VOperand) (rm : RoundingMode) : Statement (.f64x2Div d a b rm) := fun h => by
  obtain ⟨hd, ha, -⟩ := wellFormed_parts h
  have h0 := ha _ (.head _)
  have h1 := ha _ (.tail _ (.head _))
  exact (assemble_raw (row := form3 rdVector rdVector rdRounding .f64x2Div) rfl hd).trans (form3_ok (rdVector_raw h0) (rdVector_raw h1) (rdRounding_raw _))

theorem f32x4Mul (d : Ident) (a : VOperand) (b : VOperand) (rm : RoundingMode) : Statement (.f32x4Mul d a b rm) := fun h => by
  obtain ⟨hd, ha, -⟩ := wellFormed_parts h
  have h0 := ha _ (.head _)
  have h1 := ha _ (.tail _ (.head _))
  exact (assemble_raw (row := form3 rdVector rdVector rdRounding .f32x4Mul) rfl hd).trans (form3_ok (rdVector_raw h0) (rdVector_raw h1) (rdRounding_raw _))

theorem f64x2Mul (d : Ident) (a : VOperand) (b : VOperand) (rm : RoundingMode) : Statement (.f64x2Mul d a b rm) := fun h => by
  obtain ⟨hd, ha, -⟩ := wellFormed_parts h
  have h0 := ha _ (.head _)
  have h1 := ha _ (.tail _ (.head _))
  exact (assemble_raw (row := form3 rdVector rdVector rdRounding .f64x2Mul) rfl hd).trans (form3_ok (rdVector_raw h0) (rdVector_raw h1) (rdRounding_raw _))

theorem f32x4Sqrt (d : Ident) (a : VOperand) (rm : RoundingMode) : Statement (.f32x4Sqrt d a rm) := fun h => by
  obtain ⟨hd, ha, -⟩ := wellFormed_parts h
  have h0 := ha _ (.head _)
  exact (assemble_raw (row := form2 rdVector rdRounding .f32x4Sqrt) rfl hd).trans (form2_ok (rdVector_raw h0) (rdRounding_raw _))

theorem f64x2Sqrt (d : Ident) (a : VOperand) (rm : RoundingMode) : Statement (.f64x2Sqrt d a rm) := fun h => by
  obtain ⟨hd, ha, -⟩ := wellFormed_parts h
  have h0 := ha _ (.head _)
  exact (assemble_raw (row := form2 rdVector rdRounding .f64x2Sqrt) rfl hd).trans (form2_ok (rdVector_raw h0) (rdRounding_raw _))

theorem f32x4ReciprocalApproximation (d : Ident) (a : VOperand) : Statement (.f32x4ReciprocalApproximation d a) := fun h => by
  obtain ⟨hd, ha, -⟩ := wellFormed_parts h
  have h0 := ha _ (.head _)
  exact (assemble_raw (row := form1 rdVector .f32x4ReciprocalApproximation) rfl hd).trans (form1_ok (rdVector_raw h0))

theorem f64x2ReciprocalApproximation (d : Ident) (a : VOperand) : Statement (.f64x2ReciprocalApproximation d a) := fun h => by
  obtain ⟨hd, ha, -⟩ := wellFormed_parts h
  have h0 := ha _ (.head _)
  exact (assemble_raw (row := form1 rdVector .f64x2ReciprocalApproximation) rfl hd).trans (form1_ok (rdVector_raw h0))

theorem f32x4ReciprocalSqrtApproximation (d : Ident) (a : VOperand) : Statement (.f32x4ReciprocalSqrtApproximation d a) := fun h => by
  obtain ⟨hd, ha, -⟩ := wellFormed_parts h
  have h0 := ha _ (.head _)
  exact (assemble_raw (row := form1 rdVector .f32x4ReciprocalSqrtApproximation) rfl hd).trans (form1_ok (rdVector_raw h0))

theorem f64x2ReciprocalSqrtApproximation (d : Ident) (a : VOperand) : Statement (.f64x2ReciprocalSqrtApproximation d a) := fun h => by
  obtain ⟨hd, ha, -⟩ := wellFormed_parts h
  have h0 := ha _ (.head _)
  exact (assemble_raw (row := form1 rdVector .f64x2ReciprocalSqrtApproximation) rfl hd).trans (form1_ok (rdVector_raw h0))

theorem f32x4FromSignedInt (d : Ident) (a : VOperand) (rm : RoundingMode) : Statement (.f32x4FromSignedInt d a rm) := fun h => by
  obtain ⟨hd, ha, -⟩ := wellFormed_parts h
  have h0 := ha _ (.head _)
  exact (assemble_raw (row := form2 rdVector rdRounding .f32x4FromSignedInt) rfl hd).trans (form2_ok (rdVector_raw h0) (rdRounding_raw _))

theorem f64x2FromSignedInt (d : Ident) (a : VOperand) (rm : RoundingMode) : Statement (.f64x2FromSignedInt d a rm) := fun h => by
  obtain ⟨hd, ha, -⟩ := wellFormed_parts h
  have h0 := ha _ (.head _)
  exact (assemble_raw (row := form2 rdVector rdRounding .f64x2FromSignedInt) rfl hd).trans (form2_ok (rdVector_raw h0) (rdRounding_raw _))

theorem f32x4FromUnsignedInt (d : Ident) (a : VOperand) (rm : RoundingMode) : Statement (.f32x4FromUnsignedInt d a rm) := fun h => by
  obtain ⟨hd, ha, -⟩ := wellFormed_parts h
  have h0 := ha _ (.head _)
  exact (assemble_raw (row := form2 rdVector rdRounding .f32x4FromUnsignedInt) rfl hd).trans (form2_ok (rdVector_raw h0) (rdRounding_raw _))

theorem f64x2FromUnsignedInt (d : Ident) (a : VOperand) (rm : RoundingMode) : Statement (.f64x2FromUnsignedInt d a rm) := fun h => by
  obtain ⟨hd, ha, -⟩ := wellFormed_parts h
  have h0 := ha _ (.head _)
  exact (assemble_raw (row := form2 rdVector rdRounding .f64x2FromUnsignedInt) rfl hd).trans (form2_ok (rdVector_raw h0) (rdRounding_raw _))

theorem s32x4FromFloat (d1 : Ident) (d2 : Ident) (a : VOperand) : Statement (.s32x4FromFloat d1 d2 a) := fun h => by
  obtain ⟨hd, ha, hn⟩ := wellFormed_parts h
  have h0 := ha _ (.head _)
  exact (assemble_raw (row := formConvert .s32x4FromFloat) rfl hd).trans (formConvert_ok hn (rdVector_raw h0))

theorem s64x2FromFloat (d1 : Ident) (d2 : Ident) (a : VOperand) : Statement (.s64x2FromFloat d1 d2 a) := fun h => by
  obtain ⟨hd, ha, hn⟩ := wellFormed_parts h
  have h0 := ha _ (.head _)
  exact (assemble_raw (row := formConvert .s64x2FromFloat) rfl hd).trans (formConvert_ok hn (rdVector_raw h0))

theorem u32x4FromFloat (d1 : Ident) (d2 : Ident) (a : VOperand) : Statement (.u32x4FromFloat d1 d2 a) := fun h => by
  obtain ⟨hd, ha, hn⟩ := wellFormed_parts h
  have h0 := ha _ (.head _)
  exact (assemble_raw (row := formConvert .u32x4FromFloat) rfl hd).trans (formConvert_ok hn (rdVector_raw h0))

theorem u64x2FromFloat (d1 : Ident) (d2 : Ident) (a : VOperand) : Statement (.u64x2FromFloat d1 d2 a) := fun h => by
  obtain ⟨hd, ha, hn⟩ := wellFormed_parts h
  have h0 := ha _ (.head _)
  exact (assemble_raw (row := formConvert .u64x2FromFloat) rfl hd).trans (formConvert_ok hn (rdVector_raw h0))

end Laws.Assembles

end Sys2Proof
end

