-- ==== Sys2Proof/Laws/Spelling.lean ====
section
/-! SUPPORT. What reading one operand can do: each reader of the decoder answers an operand exactly when the text spells it
(30_encoding.md R107). One lemma per reader, which is all that is needed of it. -/

namespace Sys2Proof.Machine

/-! ### Lists -/

theorem readAll_eq_some {α β : Type} {f : α → Option β} {l : List α} {ys : List β} :
    readAll f l = some ys ↔ List.Forall₂ (fun y x => f x = some y) ys l := by
  induction l generalizing ys with
  | nil => cases ys <;> simp [readAll]
  | cons x r ih =>
    cases hx : f x with
    | none => cases ys <;> simp [readAll, hx]
    | some y =>
      cases hr : readAll f r with
      | none =>
        have := fun ys => (ih (ys := ys)).not.1 (by simp [hr])
        cases ys <;> simp [readAll, hx, hr, this]
      | some zs =>
        have := fun ys => ih (ys := ys)
        simp only [hr, Option.some.injEq] at this
        cases ys <;> simp [readAll, hx, hr, ← this]

theorem readLanes_eq_some {α β : Type} {n : Nat} {f : α → Option β} {l : List α} {v : Lanes β n} :
    readLanes n f l = some v ↔ List.Forall₂ (fun y x => f x = some y) v.toList l := by
  rw [← readAll_eq_some]
  obtain ⟨vs, hv⟩ := v
  cases h : readAll f l with
  | none => simp [readLanes, h]
  | some ys =>
    by_cases hn : ys.length = n
    · simp [readLanes, h, Lanes.ofList?, hn]
    · have : ys ≠ vs := fun e => hn (e ▸ hv)
      simp [readLanes, h, Lanes.ofList?, hn, this]

/-- A list all of whose elements are read as untyped words is a list of words. -/
theorem forall₂_words {β : Type} {R : β → Elem → Prop} {Q : β → Text → Prop} (H : ∀ y e, R y e ↔ ∃ w, e = .word w ∧ Q y w)
    {ys : List β} {es : List Elem} :
    List.Forall₂ R ys es ↔ ∃ ws : List Text, es = ws.map .word ∧ List.Forall₂ Q ys ws := by
  induction ys generalizing es with
  | nil =>
    simp only [List.forall₂_nil_left_iff]
    exact ⟨fun h => ⟨[], by simp [h], rfl⟩, fun ⟨ws, h, hw⟩ => by simp [h, hw]⟩
  | cons y r ih =>
    constructor
    · rintro (_ | ⟨h1, h2⟩)
      obtain ⟨w, rfl, hq⟩ := (H _ _).1 h1
      obtain ⟨ws, rfl, hqs⟩ := ih.1 h2
      exact ⟨w :: ws, rfl, .cons hq hqs⟩
    · rintro ⟨ws, rfl, h⟩
      cases h with
      | cons h1 h2 => exact .cons ((H _ _).2 ⟨_, rfl, h1⟩) (ih.2 ⟨_, rfl, h2⟩)

theorem forall₂_map_iff {α β γ : Type} {f : α → Option γ} {g : β → γ} {ys : List β} {ws : List α} :
    List.Forall₂ (fun y w => f w = some (g y)) ys ws ↔ ws.map f = ys.map fun y => some (g y) := by
  induction ys generalizing ws with
  | nil => simp
  | cons y r ih => cases ws <;> simp [ih]

/-! ### Numerals and words -/

theorem readPattern_eq_some {W : Nat} {w : Text} {p : BitVec W} : readPattern W w = some p ↔ readNumeral w = some p.toNat := by
  cases h : readNumeral w with
  | none => simp [readPattern, h]
  | some n =>
    by_cases hn : n < 2 ^ W
    · simp only [readPattern, h, if_pos hn, Option.some.injEq]
      constructor
      · rintro rfl; simp [Nat.mod_eq_of_lt hn]
      · rintro rfl; simp
    · simp only [readPattern, h, if_neg hn, Option.some.injEq, reduceCtorEq, false_iff]
      rintro rfl; exact hn p.isLt

theorem readIndex_eq_some {n : Nat} {w : Text} {i : Fin n} : readIndex n w = some i ↔ readDecimal w = some i.val := by
  cases h : readDecimal w with
  | none => simp [readIndex, h]
  | some k =>
    by_cases hk : k < n
    · simp [readIndex, h, hk, Fin.ext_iff]
    · have := i.isLt
      simp [readIndex, h, hk]; omega

/-- An identifier is no numeral. -/
theorem readNumeral_of_valid {x : Ident} (h : x.valid = true) : readNumeral x = none := by
  cases x with
  | nil => cases h
  | cons c r =>
    have hc : isLetter c = true := by
      simp only [Ident.valid, Bool.and_eq_true] at h; exact h.1.1.1
    have h0 : c ≠ '0' := by rintro rfl; revert hc; decide
    have hd : readDigits 10 0 (c :: r) = none := by
      have hv : digitValue c = none ∨ ∃ k, digitValue c = some k ∧ 10 ≤ k := by
        simp only [isLetter, between, Bool.or_eq_true, Bool.and_eq_true, Nat.ble_eq, beq_iff_eq] at hc
        simp only [digitValue]
        split_ifs with h1 h2 h3
        · exfalso
          rcases hc with (⟨a, b⟩ | ⟨a, b⟩) | rfl
          · have := h1.2; simp only [Char.reduceToNat] at *; omega
          · have := h1.2; simp only [Char.reduceToNat] at *; omega
          · revert h1; decide
        · exact .inr ⟨_, rfl, by omega⟩
        · exact .inr ⟨_, rfl, by omega⟩
        · exact .inl rfl
      rcases hv with hv | ⟨k, hv, hk⟩
      · simp [readDigits, hv]
      · simp [readDigits, hv, Nat.not_lt.2 hk]
    have hn : readNumeral (c :: r) = readDecimal (c :: r) := by
      unfold readNumeral
      split
      · rename_i e; cases e; exact absurd rfl h0
      · rfl
    rw [hn, readDecimal, if_neg (by simp), hd]

theorem valid_word_true : Ident.valid ['t', 'r', 'u', 'e'] = false := by decide
theorem valid_word_false : Ident.valid ['f', 'a', 'l', 's', 'e'] = false := by decide

theorem readTF_eq_some {w : Text} {b : Bool} : readTF w = some b ↔ SpellsBool b w := by
  simp only [readTF, SpellsBool]
  cases b <;> split_ifs <;> (simp_all; try aesop)

/-! ### Operands -/

theorem rdName_eq_some {r : RawArg} {m : Ident} : rdName r = some m ↔ SpellsArg (.buffer m) r := by
  match r with
  | .elem (.word w) =>
    by_cases h : Ident.valid w = true <;> simp [rdName, SpellsArg, h] <;> aesop
  | .elem (.typed _ _) => simp [rdName, SpellsArg]
  | .list _ _ => simp [rdName, SpellsArg]

theorem rdOffset_eq_some {r : RawArg} {a : Nat} : rdOffset r = some a ↔ SpellsArg (.offset a) r := by
  match r with
  | .elem (.word w) => simp [rdOffset, SpellsArg]
  | .elem (.typed _ _) => simp [rdOffset, SpellsArg]
  | .list _ _ => simp [rdOffset, SpellsArg]

theorem rdIndex_eq_some {n : Nat} {r : RawArg} {i : Fin n} : rdIndex n r = some i ↔ SpellsArg (.index i.val) r := by
  match r with
  | .elem (.word w) => simp [rdIndex, SpellsArg, readIndex_eq_some]
  | .elem (.typed _ _) => simp [rdIndex, SpellsArg]
  | .list _ _ => simp [rdIndex, SpellsArg]

theorem rdIndices_eq_some {n k : Nat} {r : RawArg} {s : Lanes (Fin n) k} :
    rdIndices n k r = some s ↔ SpellsArg (indices s) r := by
  match r with
  | .list es none =>
    have H : ∀ (y : Fin n) (e : Elem), rdIndexElem n e = some y ↔ ∃ w, e = .word w ∧ readDecimal w = some y.val := by
      intro y e; cases e <;> simp [rdIndexElem, readIndex_eq_some]
    simp only [rdIndices, readLanes_eq_some, forall₂_words H, forall₂_map_iff, indices, SpellsArg, RawArg.list.injEq, and_true,
      List.map_map, Function.comp_def]
  | .list _ (some _) => simp [rdIndices, SpellsArg, indices]
  | .elem _ => simp [rdIndices, SpellsArg, indices]

theorem rdRounding_eq_some {r : RawArg} {rm : RoundingMode} : rdRounding r = some rm ↔ SpellsArg (.rounding rm) r := by
  match r with
  | .elem (.word w) =>
    simp only [rdRounding, SpellsArg, RawArg.elem.injEq, Elem.word.injEq]
    constructor
    · intro h
      have := List.find?_some h
      exact (beq_iff_eq.1 this).symm
    · rintro rfl; cases rm <;> decide
  | .elem (.typed _ _) => simp [rdRounding, SpellsArg]
  | .list _ _ => simp [rdRounding, SpellsArg]

theorem rdBoolean_eq_some {r : RawArg} {o : Operand Bool} : rdBoolean r = some o ↔ SpellsArg (.boolean o) r := by
  match r with
  | .elem (.word w) =>
    by_cases h1 : w = ['t', 'r', 'u', 'e']
    · subst h1
      cases o with
      | slot x => simp [rdBoolean, SpellsArg]; rintro rfl; exact valid_word_true
      | lit b => cases b <;> simp [rdBoolean, SpellsArg]
    · by_cases h2 : w = ['f', 'a', 'l', 's', 'e']
      · subst h2
        cases o with
        | slot x => simp [rdBoolean, SpellsArg]; rintro rfl; exact valid_word_false
        | lit b => cases b <;> simp [rdBoolean, SpellsArg]
      · by_cases h : Ident.valid w = true
        · cases o with
          | slot x => simp [rdBoolean, SpellsArg, h1, h2, h]; aesop
          | lit b => cases b <;> simp [rdBoolean, SpellsArg, h1, h2, h]
        · cases o with
          | slot x => simp [rdBoolean, SpellsArg, h1, h2, h]; rintro rfl; simpa using h
          | lit b => cases b <;> simp [rdBoolean, SpellsArg, h1, h2, h]
  | .elem (.typed _ _) => cases o <;> simp [rdBoolean, SpellsArg]
  | .list _ _ => cases o <;> simp [rdBoolean, SpellsArg]

theorem rdBooleanElem_eq_some {e : Elem} {o : Operand Bool} : rdBooleanElem e = some o ↔ SpellsBooleanElem o e := by
  cases e with
  | typed p τ => cases o <;> simp [rdBooleanElem, SpellsBooleanElem]
  | word w =>
    cases h : readTF w with
    | some b =>
      have hb := readTF_eq_some.1 h
      cases o with
      | lit c =>
        simp only [rdBooleanElem, h, SpellsBooleanElem, Option.some.injEq, Operand.lit.injEq, Elem.word.injEq,
          exists_eq_left']
        rw [← readTF_eq_some, h, Option.some.injEq]
      | slot x =>
        simp only [rdBooleanElem, h, SpellsBooleanElem, Option.some.injEq, reduceCtorEq, false_iff, Elem.word.injEq, not_and]
        rintro rfl
        rcases hb with rfl | rfl <;> cases b <;> decide
    | none =>
      have hw : w ≠ ['t'] ∧ w ≠ ['f'] := by
        constructor <;> rintro rfl <;> revert h <;> decide
      cases o with
      | lit c =>
        have : ¬ SpellsBool c w := fun hs => by rw [readTF_eq_some.2 hs] at h; cases h
        by_cases hv : Ident.valid w = true <;> simp [rdBooleanElem, h, SpellsBooleanElem, hv, this]
      | slot x =>
        by_cases hv : Ident.valid w = true
        · simp only [rdBooleanElem, h, if_pos hv, SpellsBooleanElem, Option.some.injEq, Operand.slot.injEq, Elem.word.injEq]
          constructor
          · rintro rfl; simp [Ident.validElement, hv, hw]
          · exact fun e => e.1
        · simp only [rdBooleanElem, h, if_neg hv, SpellsBooleanElem, reduceCtorEq, false_iff, Elem.word.injEq, not_and]
          rintro rfl; simp [Ident.validElement, hv]

theorem rdBooleans_eq_some {n : Nat} {r : RawArg} {os : Lanes (Operand Bool) n} :
    rdBooleans n r = some os ↔ SpellsArg (.booleans os.toList) r := by
  match r with
  | .list es none =>
    simp only [rdBooleans, readLanes_eq_some, rdBooleanElem_eq_some, SpellsArg, RawArg.list.injEq, and_true, exists_eq_left']
  | .list _ (some _) => simp [rdBooleans, SpellsArg]
  | .elem _ => simp [rdBooleans, SpellsArg]

theorem rdScalarElem_eq_some {W : Nat} {τ : Ty} {e : Elem} {o : Operand (BitVec W)} :
    rdScalarElem τ W e = some o ↔ SpellsScalar τ o e := by
  cases e with
  | typed p σ =>
    cases o with
    | slot x => by_cases h : σ = τ.name <;> simp [rdScalarElem, SpellsScalar, h]
    | lit q =>
      by_cases h : σ = τ.name
      · simp [rdScalarElem, SpellsScalar, h, readPattern_eq_some]
      · simp [rdScalarElem, SpellsScalar, h]
  | word w =>
    by_cases h : Ident.valid w = true
    · cases o with
      | slot x => simp [rdScalarElem, SpellsScalar, h]; aesop
      | lit q => simp [rdScalarElem, SpellsScalar, h, readNumeral_of_valid h]
    · cases o with
      | slot x => simp [rdScalarElem, SpellsScalar, h]; rintro rfl; simpa using h
      | lit q => simp [rdScalarElem, SpellsScalar, h, readPattern_eq_some]

theorem rdScalar_eq_some {W : Nat} {τ : Ty} {r : RawArg} {o : Operand (BitVec W)} :
    rdScalar τ W r = some o ↔ SpellsArg (.scalar τ o) r := by
  match r with
  | .elem e => simp [rdScalar, SpellsArg, rdScalarElem_eq_some]
  | .list _ _ => simp [rdScalar, SpellsArg]

theorem rdScalars_eq_some {W n : Nat} {τ : Ty} {r : RawArg} {os : Lanes (Operand (BitVec W)) n} :
    rdScalars τ W n r = some os ↔ SpellsArg (.scalars τ os.toList) r := by
  match r with
  | .list es none =>
    simp only [rdScalars, readLanes_eq_some, rdScalarElem_eq_some, SpellsArg, RawArg.list.injEq, and_true, exists_eq_left']
  | .list _ (some _) => simp [rdScalars, SpellsArg]
  | .elem _ => simp [rdScalars, SpellsArg]

theorem rdMask_eq_some {n : Nat} {τ : Ty} {r : RawArg} {o : Operand (Lanes Bool n)} :
    rdMask n r = some o ↔ SpellsArg (.mask τ o) r := by
  match r with
  | .elem (.word w) =>
    by_cases h : Ident.valid w = true
    · cases o with
      | slot x => simp [rdMask, SpellsArg, h]; aesop
      | lit v => simp [rdMask, SpellsArg, h]
    · cases o with
      | slot x => simp [rdMask, SpellsArg, h]; rintro rfl; simpa using h
      | lit v => simp [rdMask, SpellsArg, h]
  | .elem (.typed _ _) => cases o <;> simp [rdMask, SpellsArg]
  | .list es none =>
    cases o with
    | slot x => simp [rdMask, SpellsArg]
    | lit v =>
      have H : ∀ (b : Bool) (e : Elem), rdTF e = some b ↔ ∃ w, e = .word w ∧ SpellsBool b w := by
        intro b e; cases e <;> simp [rdTF, readTF_eq_some]
      simp only [rdMask, Option.map_eq_some_iff, Operand.lit.injEq, exists_eq_right, readLanes_eq_some, forall₂_words H,
        SpellsArg, RawArg.list.injEq, and_true]
  | .list _ (some _) => cases o <;> simp [rdMask, SpellsArg]

theorem spellsLanes_list {W n : Nat} {es : List Elem} {ps : Lanes (BitVec W) n} {sfx t : Text} :
    SpellsLanes ps t (.list es (some sfx)) ↔ sfx = t ∧ readLanes n (rdLane W) es = some ps := by
  have H : ∀ (p : BitVec W) (e : Elem), rdLane W e = some p ↔ ∃ w, e = .word w ∧ readNumeral w = some p.toNat := by
    intro p e; cases e <;> simp [rdLane, readPattern_eq_some]
  simp only [readLanes_eq_some, forall₂_words H, forall₂_map_iff, SpellsLanes, Numerals, RawArg.list.injEq,
    Option.some.injEq, List.map_map, Function.comp_def]
  exact ⟨fun ⟨ws, ⟨h1, h2⟩, h3⟩ => ⟨h2, ws, h1, h3⟩, fun ⟨h2, ws, h1, h3⟩ => ⟨ws, ⟨h1, h2⟩, h3⟩⟩

theorem rdVector_eq_some {r : RawArg} {o : VOperand} : rdVector r = some o ↔ SpellsArg (.vector o) r := by
  match r with
  | .elem (.word w) =>
    by_cases h : Ident.valid w = true
    · cases o with
      | slot x => simp [rdVector, SpellsArg, h]; aesop
      | lit l => cases l <;> simp [rdVector, SpellsArg, SpellsLanes, h]
    · cases o with
      | slot x => simp [rdVector, SpellsArg, h]; rintro rfl; simpa using h
      | lit l => cases l <;> simp [rdVector, SpellsArg, SpellsLanes, h]
  | .elem (.typed _ _) =>
    cases o with
    | slot x => simp [rdVector, SpellsArg]
    | lit l => cases l <;> simp [rdVector, SpellsArg, SpellsLanes]
  | .list es none =>
    cases o with
    | slot x => simp [rdVector, SpellsArg]
    | lit l => cases l <;> simp [rdVector, SpellsArg, SpellsLanes]
  | .list es (some sfx) =>
    simp only [rdVector]
    split_ifs <;>
      cases o with
      | slot x => simp [SpellsArg]
      | lit l => cases l <;> simp [SpellsArg, spellsLanes_list, Option.map_eq_some_iff, *]

end Sys2Proof.Machine
end

