-- ==== Sys2Proof/Tests/Slice0.lean ====
section
/-! SUPPORT. Tests of the model: the decoder on statements written out from the spec, the checks, one step at a time, and for
every statement with hypotheses a state that meets them. Expected values are those of 95_test_vectors.md, or worked out by
hand from the rules named. -/

namespace Sys2Proof.Tests

set_option Elab.async false

open Sys2Proof Sys2Proof.Machine

/-! ### Helpers -/

/-- The bytes of a list as the cells of a Buffer, zeros left out. -/
def cellsFrom : Nat → List Byte → List Host.Cell
  | _, [] => []
  | a, b :: r => if b = unlistedByte then cellsFrom (a + 1) r else (a, b) :: cellsFrom (a + 1) r

/-- The launch of 95_test_vectors.md section 2.10: Buffer `m` of 32 bytes, byte k holding k, Buffer `n` of 24 bytes `ee`, and
the vector `d`; the program is given. -/
def launch (m : LaneMapping) (program : List Text) : State :=
  { State.reset with
    slots := [(['d'], .v128 (ofLanes m [0x03020100#32, 0x07060504#32, 0x0b0a0908#32, 0x0f0e0d0c#32]))]
    mem := [(['m'], ⟨32, cellsFrom 0 ((List.range 32).map fun k => BitVec.ofNat 8 k)⟩),
      (['n'], ⟨24, cellsFrom 0 (List.replicate 24 0xee)⟩)]
    program := program
    params := { laneMapping := m, flushSubnormals := false, offsetBits := 32 } }

/-- The next state, if the answer is one. -/
def nextOf : Out → Option State
  | .next s => some s
  | .fault _ => none
  | .refused _ => none

/-- The refusal, if the answer is one. -/
def refusalOf : Out → Option Refusal
  | .next _ => none
  | .fault _ => none
  | .refused r => some r

/-- The fault, if the answer is one. -/
def faultOf : Out → Option Fault
  | .next _ => none
  | .fault f => some f
  | .refused _ => none

/-- One step of the one-statement program. -/
def run1 (m : LaneMapping) (t : Text) : Option State := nextOf (step (launch m [t]))

/-- The content of a slot as numbers: the lanes of a vector under a division, a scalar or boolean as one number. -/
def numbers (m : LaneMapping) (W : Nat) : Option Value → List Nat
  | some (.v128 v) => (lanes m W v).map BitVec.toNat
  | some (.b8x16 v) => v.toList.map Bool.toNat
  | some (.b16x8 v) => v.toList.map Bool.toNat
  | some (.b32x4 v) => v.toList.map Bool.toNat
  | some (.b64x2 v) => v.toList.map Bool.toNat
  | some (.i8 p) => [p.toNat]
  | some (.i16 p) => [p.toNat]
  | some (.i32 p) => [p.toNat]
  | some (.i64 p) => [p.toNat]
  | some (.f32 p) => [p.toNat]
  | some (.f64 p) => [p.toNat]
  | some (.boolean b) => [b.toNat]
  | none => []

/-- What one step leaves in the slots named. -/
def results (m : LaneMapping) (W : Nat) (t : Text) (xs : List Ident) : List (List Nat) :=
  match run1 m t with
  | some s => xs.map fun x => numbers m W (s.slot x)
  | none => []

/-- What one step leaves in Buffer `n`, `pc` and the fault. -/
def stored (m : LaneMapping) (t : Text) : Option (List Nat × Nat × Option Fault) :=
  (run1 m t).map fun s =>
    ((List.range 24).map fun a => ((s.byte ['n'] a).getD 0).toNat, s.pc, s.fault)

/-! ### Decoding: one statement of every operation, written out from its format (30_encoding.md R103, R107, R111) -/

theorem test_decode_construct_0 :
    decode "r = b8x16.build([t, z, t, t, f, t, t, f, t, t, f, t, t, f, t, t])".toList = .ok (.b8x16Build ['r'] ⟨[.lit true, .slot ['z'], .lit true, .lit true, .lit false, .lit true, .lit true, .lit false, .lit true, .lit true, .lit false, .lit true, .lit true, .lit false, .lit true, .lit true], rfl⟩) ∧
    decode "r = b16x8.build([t, z, t, t, f, t, t, f])".toList = .ok (.b16x8Build ['r'] ⟨[.lit true, .slot ['z'], .lit true, .lit true, .lit false, .lit true, .lit true, .lit false], rfl⟩) ∧
    decode "r = b32x4.build([t, z, t, t])".toList = .ok (.b32x4Build ['r'] ⟨[.lit true, .slot ['z'], .lit true, .lit true], rfl⟩) ∧
    decode "r = b64x2.build([t, z])".toList = .ok (.b64x2Build ['r'] ⟨[.lit true, .slot ['z']], rfl⟩) ∧
    decode "r = i8x16.build([0x80:i8, z, 0xd0:i8, 0x59:i8, 0x2f:i8, 0xa0:i8, 0x46:i8, 0x4f:i8, 0x61:i8, 0xa4:i8, 0x9f:i8, 0xd9:i8, 0x2c:i8, 0xa9:i8, 0xba:i8, 0x59:i8])".toList = .ok (.i8x16Build ['r'] ⟨[.lit 0x80, .slot ['z'], .lit 0xd0, .lit 0x59, .lit 0x2f, .lit 0xa0, .lit 0x46, .lit 0x4f, .lit 0x61, .lit 0xa4, .lit 0x9f, .lit 0xd9, .lit 0x2c, .lit 0xa9, .lit 0xba, .lit 0x59], rfl⟩) ∧
    decode "r = i16x8.build([0xb480:i16, z, 0x48d0:i16, 0x6a59:i16, 0x692f:i16, 0xc8a0:i16, 0x5c46:i16, 0x2c4f:i16])".toList = .ok (.i16x8Build ['r'] ⟨[.lit 0xb480, .slot ['z'], .lit 0x48d0, .lit 0x6a59, .lit 0x692f, .lit 0xc8a0, .lit 0x5c46, .lit 0x2c4f], rfl⟩) ∧
    decode "r = i32x4.build([0xe6d2b480:i32, z, 0x5d9948d0:i32, 0x08f06a59:i32])".toList = .ok (.i32x4Build ['r'] ⟨[.lit 0xe6d2b480, .slot ['z'], .lit 0x5d9948d0, .lit 0x08f06a59], rfl⟩) ∧
    decode "r = i64x2.build([0x9f3c5a17e6d2b480:i64, z])".toList = .ok (.i64x2Build ['r'] ⟨[.lit 0x9f3c5a17e6d2b480, .slot ['z']], rfl⟩) := by
  simp only [String.reduceToList]; decide +kernel

theorem test_decode_construct_1 :
    decode "r = f32x4.build([0xe6d2b480:f32, z, 0x5d9948d0:f32, 0x08f06a59:f32])".toList = .ok (.f32x4Build ['r'] ⟨[.lit 0xe6d2b480, .slot ['z'], .lit 0x5d9948d0, .lit 0x08f06a59], rfl⟩) ∧
    decode "r = f64x2.build([0x9f3c5a17e6d2b480:f64, z])".toList = .ok (.f64x2Build ['r'] ⟨[.lit 0x9f3c5a17e6d2b480, .slot ['z']], rfl⟩) ∧
    decode "r = b8x16.splat(true)".toList = .ok (.b8x16Splat ['r'] (.lit true)) ∧
    decode "r = b16x8.splat(true)".toList = .ok (.b16x8Splat ['r'] (.lit true)) ∧
    decode "r = b32x4.splat(true)".toList = .ok (.b32x4Splat ['r'] (.lit true)) ∧
    decode "r = b64x2.splat(true)".toList = .ok (.b64x2Splat ['r'] (.lit true)) ∧
    decode "r = i8x16.splat(0xba:i8)".toList = .ok (.i8x16Splat ['r'] (.lit 0xba)) ∧
    decode "r = i16x8.splat(0xd559:i16)".toList = .ok (.i16x8Splat ['r'] (.lit 0xd559)) := by
  simp only [String.reduceToList]; decide +kernel

theorem test_decode_construct_2 :
    decode "r = i32x4.splat(0x784f8b5a:i32)".toList = .ok (.i32x4Splat ['r'] (.lit 0x784f8b5a)) ∧
    decode "r = i64x2.splat(0x8e2d4b06f7c3a591:i64)".toList = .ok (.i64x2Splat ['r'] (.lit 0x8e2d4b06f7c3a591)) ∧
    decode "r = f32x4.splat(0xeec84482:f32)".toList = .ok (.f32x4Splat ['r'] (.lit 0xeec84482)) ∧
    decode "r = f64x2.splat(0x116fe27b4c8859c1:f64)".toList = .ok (.f64x2Splat ['r'] (.lit 0x116fe27b4c8859c1)) := by
  simp only [String.reduceToList]; decide +kernel

theorem test_decode_access_0 :
    decode "r = b8x16.extractLane(a, 15)".toList = .ok (.b8x16ExtractLane ['r'] (.slot ['a']) 15) ∧
    decode "r = b16x8.extractLane(a, 7)".toList = .ok (.b16x8ExtractLane ['r'] (.slot ['a']) 7) ∧
    decode "r = b32x4.extractLane(a, 3)".toList = .ok (.b32x4ExtractLane ['r'] (.slot ['a']) 3) ∧
    decode "r = b64x2.extractLane(a, 1)".toList = .ok (.b64x2ExtractLane ['r'] (.slot ['a']) 1) ∧
    decode "r = i8x16.extractLane(a, 15)".toList = .ok (.i8x16ExtractLane ['r'] (.slot ['a']) 15) ∧
    decode "r = i16x8.extractLane(a, 7)".toList = .ok (.i16x8ExtractLane ['r'] (.slot ['a']) 7) ∧
    decode "r = i32x4.extractLane(a, 3)".toList = .ok (.i32x4ExtractLane ['r'] (.slot ['a']) 3) ∧
    decode "r = i64x2.extractLane(a, 1)".toList = .ok (.i64x2ExtractLane ['r'] (.slot ['a']) 1) := by
  simp only [String.reduceToList]; decide +kernel

theorem test_decode_access_1 :
    decode "r = f32x4.extractLane(a, 3)".toList = .ok (.f32x4ExtractLane ['r'] (.slot ['a']) 3) ∧
    decode "r = f64x2.extractLane(a, 1)".toList = .ok (.f64x2ExtractLane ['r'] (.slot ['a']) 1) ∧
    decode "r = b8x16.replaceLane(a, 15, true)".toList = .ok (.b8x16ReplaceLane ['r'] (.slot ['a']) 15 (.lit true)) ∧
    decode "r = b16x8.replaceLane(a, 7, true)".toList = .ok (.b16x8ReplaceLane ['r'] (.slot ['a']) 7 (.lit true)) ∧
    decode "r = b32x4.replaceLane(a, 3, true)".toList = .ok (.b32x4ReplaceLane ['r'] (.slot ['a']) 3 (.lit true)) ∧
    decode "r = b64x2.replaceLane(a, 1, true)".toList = .ok (.b64x2ReplaceLane ['r'] (.slot ['a']) 1 (.lit true)) ∧
    decode "r = i8x16.replaceLane(a, 15, 0xa2:i8)".toList = .ok (.i8x16ReplaceLane ['r'] (.slot ['a']) 15 (.lit 0xa2)) ∧
    decode "r = i16x8.replaceLane(a, 7, 0x75b3:i16)".toList = .ok (.i16x8ReplaceLane ['r'] (.slot ['a']) 7 (.lit 0x75b3)) := by
  simp only [String.reduceToList]; decide +kernel

theorem test_decode_access_2 :
    decode "r = i32x4.replaceLane(a, 3, 0x7bbf6ef6:i32)".toList = .ok (.i32x4ReplaceLane ['r'] (.slot ['a']) 3 (.lit 0x7bbf6ef6)) ∧
    decode "r = i64x2.replaceLane(a, 1, 0x256abb082ed64c7f:i64)".toList = .ok (.i64x2ReplaceLane ['r'] (.slot ['a']) 1 (.lit 0x256abb082ed64c7f)) ∧
    decode "r = f32x4.replaceLane(a, 3, 0x87584b0d:f32)".toList = .ok (.f32x4ReplaceLane ['r'] (.slot ['a']) 3 (.lit 0x87584b0d)) ∧
    decode "r = f64x2.replaceLane(a, 1, 0x2726195f9308ea82:f64)".toList = .ok (.f64x2ReplaceLane ['r'] (.slot ['a']) 1 (.lit 0x2726195f9308ea82)) ∧
    decode "r = v8x16.select(g, a, b)".toList = .ok (.v8x16Select ['r'] (.slot ['g']) (.slot ['a']) (.slot ['b'])) ∧
    decode "r = v16x8.select(g, a, b)".toList = .ok (.v16x8Select ['r'] (.slot ['g']) (.slot ['a']) (.slot ['b'])) ∧
    decode "r = v32x4.select(g, a, b)".toList = .ok (.v32x4Select ['r'] (.slot ['g']) (.slot ['a']) (.slot ['b'])) ∧
    decode "r = v64x2.select(g, a, b)".toList = .ok (.v64x2Select ['r'] (.slot ['g']) (.slot ['a']) (.slot ['b'])) := by
  simp only [String.reduceToList]; decide +kernel

theorem test_decode_access_3 :
    decode "r = v8x16.swizzle(a, [15, 1, 13, 3, 11, 5, 9, 7, 7, 9, 5, 11, 3, 13, 1, 15])".toList = .ok (.v8x16Swizzle ['r'] (.slot ['a']) ⟨[15, 1, 13, 3, 11, 5, 9, 7, 7, 9, 5, 11, 3, 13, 1, 15], rfl⟩) ∧
    decode "r = v16x8.swizzle(a, [7, 1, 5, 3, 3, 5, 1, 7])".toList = .ok (.v16x8Swizzle ['r'] (.slot ['a']) ⟨[7, 1, 5, 3, 3, 5, 1, 7], rfl⟩) ∧
    decode "r = v32x4.swizzle(a, [3, 1, 1, 3])".toList = .ok (.v32x4Swizzle ['r'] (.slot ['a']) ⟨[3, 1, 1, 3], rfl⟩) ∧
    decode "r = v64x2.swizzle(a, [1, 1])".toList = .ok (.v64x2Swizzle ['r'] (.slot ['a']) ⟨[1, 1], rfl⟩) ∧
    decode "r = v8x16.shuffle(a, b, [31, 1, 29, 3, 27, 5, 25, 7, 23, 9, 21, 11, 19, 13, 17, 15])".toList = .ok (.v8x16Shuffle ['r'] (.slot ['a']) (.slot ['b']) ⟨[31, 1, 29, 3, 27, 5, 25, 7, 23, 9, 21, 11, 19, 13, 17, 15], rfl⟩) ∧
    decode "r = v16x8.shuffle(a, b, [15, 1, 13, 3, 11, 5, 9, 7])".toList = .ok (.v16x8Shuffle ['r'] (.slot ['a']) (.slot ['b']) ⟨[15, 1, 13, 3, 11, 5, 9, 7], rfl⟩) ∧
    decode "r = v32x4.shuffle(a, b, [7, 1, 5, 3])".toList = .ok (.v32x4Shuffle ['r'] (.slot ['a']) (.slot ['b']) ⟨[7, 1, 5, 3], rfl⟩) ∧
    decode "r = v64x2.shuffle(a, b, [3, 1])".toList = .ok (.v64x2Shuffle ['r'] (.slot ['a']) (.slot ['b']) ⟨[3, 1], rfl⟩) := by
  simp only [String.reduceToList]; decide +kernel

theorem test_decode_arith_0 :
    decode "r = i8x16.add(a, b)".toList = .ok (.i8x16Add ['r'] (.slot ['a']) (.slot ['b'])) ∧
    decode "r = i16x8.add(a, b)".toList = .ok (.i16x8Add ['r'] (.slot ['a']) (.slot ['b'])) ∧
    decode "r = i32x4.add(a, b)".toList = .ok (.i32x4Add ['r'] (.slot ['a']) (.slot ['b'])) ∧
    decode "r = i64x2.add([0x9f3c5a17e6d2b480, 0x12e68a43fddb5791]_64, b)".toList = .ok (.i64x2Add ['r'] (.lit (.w64 ⟨[0x9f3c5a17e6d2b480, 0x12e68a43fddb5791], rfl⟩)) (.slot ['b'])) ∧
    decode "r = i8x16.sub(a, b)".toList = .ok (.i8x16Sub ['r'] (.slot ['a']) (.slot ['b'])) ∧
    decode "r = i16x8.sub(a, b)".toList = .ok (.i16x8Sub ['r'] (.slot ['a']) (.slot ['b'])) ∧
    decode "r = i32x4.sub(a, b)".toList = .ok (.i32x4Sub ['r'] (.slot ['a']) (.slot ['b'])) ∧
    decode "r = i64x2.sub([0x9f3c5a17e6d2b480, 0x12e68a43fddb5791]_64, b)".toList = .ok (.i64x2Sub ['r'] (.lit (.w64 ⟨[0x9f3c5a17e6d2b480, 0x12e68a43fddb5791], rfl⟩)) (.slot ['b'])) := by
  simp only [String.reduceToList]; decide +kernel

theorem test_decode_arith_1 :
    decode "r = i8x16.mul(a, b)".toList = .ok (.i8x16Mul ['r'] (.slot ['a']) (.slot ['b'])) ∧
    decode "r = i16x8.mul(a, b)".toList = .ok (.i16x8Mul ['r'] (.slot ['a']) (.slot ['b'])) ∧
    decode "r = i32x4.mul(a, b)".toList = .ok (.i32x4Mul ['r'] (.slot ['a']) (.slot ['b'])) ∧
    decode "r = i64x2.mul([0x9f3c5a17e6d2b480, 0x12e68a43fddb5791]_64, b)".toList = .ok (.i64x2Mul ['r'] (.lit (.w64 ⟨[0x9f3c5a17e6d2b480, 0x12e68a43fddb5791], rfl⟩)) (.slot ['b'])) ∧
    decode "r = i8x16.neg(a)".toList = .ok (.i8x16Neg ['r'] (.slot ['a'])) ∧
    decode "r = i16x8.neg(a)".toList = .ok (.i16x8Neg ['r'] (.slot ['a'])) ∧
    decode "r = i32x4.neg(a)".toList = .ok (.i32x4Neg ['r'] (.slot ['a'])) ∧
    decode "r = i64x2.neg(a)".toList = .ok (.i64x2Neg ['r'] (.slot ['a'])) := by
  simp only [String.reduceToList]; decide +kernel

theorem test_decode_arith_2 :
    decode "r = s8x16.addSaturate(a, b)".toList = .ok (.s8x16AddSaturate ['r'] (.slot ['a']) (.slot ['b'])) ∧
    decode "r = s16x8.addSaturate(a, b)".toList = .ok (.s16x8AddSaturate ['r'] (.slot ['a']) (.slot ['b'])) ∧
    decode "r = u8x16.addSaturate(a, b)".toList = .ok (.u8x16AddSaturate ['r'] (.slot ['a']) (.slot ['b'])) ∧
    decode "r = u16x8.addSaturate(a, b)".toList = .ok (.u16x8AddSaturate ['r'] (.slot ['a']) (.slot ['b'])) ∧
    decode "r = s8x16.subSaturate(a, b)".toList = .ok (.s8x16SubSaturate ['r'] (.slot ['a']) (.slot ['b'])) ∧
    decode "r = s16x8.subSaturate(a, b)".toList = .ok (.s16x8SubSaturate ['r'] (.slot ['a']) (.slot ['b'])) ∧
    decode "r = u8x16.subSaturate(a, b)".toList = .ok (.u8x16SubSaturate ['r'] (.slot ['a']) (.slot ['b'])) ∧
    decode "r = u16x8.subSaturate(a, b)".toList = .ok (.u16x8SubSaturate ['r'] (.slot ['a']) (.slot ['b'])) := by
  simp only [String.reduceToList]; decide +kernel

theorem test_decode_arith_3 :
    decode "r = i8x16.shiftLeftByScalar(a, 0x86:i8)".toList = .ok (.i8x16ShiftLeftByScalar ['r'] (.slot ['a']) (.lit 0x86)) ∧
    decode "r = i16x8.shiftLeftByScalar(a, 0x87:i8)".toList = .ok (.i16x8ShiftLeftByScalar ['r'] (.slot ['a']) (.lit 0x87)) ∧
    decode "r = i32x4.shiftLeftByScalar(a, 0x88:i8)".toList = .ok (.i32x4ShiftLeftByScalar ['r'] (.slot ['a']) (.lit 0x88)) ∧
    decode "r = i64x2.shiftLeftByScalar(a, 0x89:i8)".toList = .ok (.i64x2ShiftLeftByScalar ['r'] (.slot ['a']) (.lit 0x89)) ∧
    decode "r = s8x16.shiftRightByScalar(a, 0x80:i8)".toList = .ok (.s8x16ShiftRightByScalar ['r'] (.slot ['a']) (.lit 0x80)) ∧
    decode "r = s16x8.shiftRightByScalar(a, 0x81:i8)".toList = .ok (.s16x8ShiftRightByScalar ['r'] (.slot ['a']) (.lit 0x81)) ∧
    decode "r = s32x4.shiftRightByScalar(a, 0x82:i8)".toList = .ok (.s32x4ShiftRightByScalar ['r'] (.slot ['a']) (.lit 0x82)) ∧
    decode "r = s64x2.shiftRightByScalar(a, 0x83:i8)".toList = .ok (.s64x2ShiftRightByScalar ['r'] (.slot ['a']) (.lit 0x83)) := by
  simp only [String.reduceToList]; decide +kernel

theorem test_decode_arith_4 :
    decode "r = u8x16.shiftRightByScalar(a, 0x84:i8)".toList = .ok (.u8x16ShiftRightByScalar ['r'] (.slot ['a']) (.lit 0x84)) ∧
    decode "r = u16x8.shiftRightByScalar(a, 0x85:i8)".toList = .ok (.u16x8ShiftRightByScalar ['r'] (.slot ['a']) (.lit 0x85)) ∧
    decode "r = u32x4.shiftRightByScalar(a, 0x86:i8)".toList = .ok (.u32x4ShiftRightByScalar ['r'] (.slot ['a']) (.lit 0x86)) ∧
    decode "r = u64x2.shiftRightByScalar(a, 0x87:i8)".toList = .ok (.u64x2ShiftRightByScalar ['r'] (.slot ['a']) (.lit 0x87)) := by
  simp only [String.reduceToList]; decide +kernel

theorem test_decode_logic_0 :
    decode "r = b8x16.and(a, b)".toList = .ok (.b8x16And ['r'] (.slot ['a']) (.slot ['b'])) ∧
    decode "r = b16x8.and(a, b)".toList = .ok (.b16x8And ['r'] (.slot ['a']) (.slot ['b'])) ∧
    decode "r = b32x4.and(a, b)".toList = .ok (.b32x4And ['r'] (.slot ['a']) (.slot ['b'])) ∧
    decode "r = b64x2.and(a, b)".toList = .ok (.b64x2And ['r'] (.slot ['a']) (.slot ['b'])) ∧
    decode "r = b8x16.or(a, b)".toList = .ok (.b8x16Or ['r'] (.slot ['a']) (.slot ['b'])) ∧
    decode "r = b16x8.or(a, b)".toList = .ok (.b16x8Or ['r'] (.slot ['a']) (.slot ['b'])) ∧
    decode "r = b32x4.or(a, b)".toList = .ok (.b32x4Or ['r'] (.slot ['a']) (.slot ['b'])) ∧
    decode "r = b64x2.or(a, b)".toList = .ok (.b64x2Or ['r'] (.slot ['a']) (.slot ['b'])) := by
  simp only [String.reduceToList]; decide +kernel

theorem test_decode_logic_1 :
    decode "r = b8x16.xor(a, b)".toList = .ok (.b8x16Xor ['r'] (.slot ['a']) (.slot ['b'])) ∧
    decode "r = b16x8.xor(a, b)".toList = .ok (.b16x8Xor ['r'] (.slot ['a']) (.slot ['b'])) ∧
    decode "r = b32x4.xor(a, b)".toList = .ok (.b32x4Xor ['r'] (.slot ['a']) (.slot ['b'])) ∧
    decode "r = b64x2.xor(a, b)".toList = .ok (.b64x2Xor ['r'] (.slot ['a']) (.slot ['b'])) ∧
    decode "r = b8x16.not(a)".toList = .ok (.b8x16Not ['r'] (.slot ['a'])) ∧
    decode "r = b16x8.not(a)".toList = .ok (.b16x8Not ['r'] (.slot ['a'])) ∧
    decode "r = b32x4.not([t, f, t, f])".toList = .ok (.b32x4Not ['r'] (.lit ⟨[true, false, true, false], rfl⟩)) ∧
    decode "r = b64x2.not([t, f])".toList = .ok (.b64x2Not ['r'] (.lit ⟨[true, false], rfl⟩)) := by
  simp only [String.reduceToList]; decide +kernel

theorem test_decode_logic_2 :
    decode "r = v128.and(a, b)".toList = .ok (.v128And ['r'] (.slot ['a']) (.slot ['b'])) ∧
    decode "r = v128.or(a, b)".toList = .ok (.v128Or ['r'] (.slot ['a']) (.slot ['b'])) ∧
    decode "r = v128.xor(a, b)".toList = .ok (.v128Xor ['r'] (.slot ['a']) (.slot ['b'])) ∧
    decode "r = v128.not(a)".toList = .ok (.v128Not ['r'] (.slot ['a'])) ∧
    decode "r = b8x16.anyTrue(a)".toList = .ok (.b8x16AnyTrue ['r'] (.slot ['a'])) ∧
    decode "r = b16x8.anyTrue(a)".toList = .ok (.b16x8AnyTrue ['r'] (.slot ['a'])) ∧
    decode "r = b32x4.anyTrue([t, f, t, f])".toList = .ok (.b32x4AnyTrue ['r'] (.lit ⟨[true, false, true, false], rfl⟩)) ∧
    decode "r = b64x2.anyTrue([t, f])".toList = .ok (.b64x2AnyTrue ['r'] (.lit ⟨[true, false], rfl⟩)) := by
  simp only [String.reduceToList]; decide +kernel

theorem test_decode_logic_3 :
    decode "r = b8x16.allTrue(a)".toList = .ok (.b8x16AllTrue ['r'] (.slot ['a'])) ∧
    decode "r = b16x8.allTrue(a)".toList = .ok (.b16x8AllTrue ['r'] (.slot ['a'])) ∧
    decode "r = b32x4.allTrue([t, f, t, f])".toList = .ok (.b32x4AllTrue ['r'] (.lit ⟨[true, false, true, false], rfl⟩)) ∧
    decode "r = b64x2.allTrue([t, f])".toList = .ok (.b64x2AllTrue ['r'] (.lit ⟨[true, false], rfl⟩)) := by
  simp only [String.reduceToList]; decide +kernel

theorem test_decode_compare_0 :
    decode "r = i8x16.equal(a, b)".toList = .ok (.i8x16Equal ['r'] (.slot ['a']) (.slot ['b'])) ∧
    decode "r = i16x8.equal(a, b)".toList = .ok (.i16x8Equal ['r'] (.slot ['a']) (.slot ['b'])) ∧
    decode "r = i32x4.equal(a, b)".toList = .ok (.i32x4Equal ['r'] (.slot ['a']) (.slot ['b'])) ∧
    decode "r = i64x2.equal([0x9f3c5a17e6d2b480, 0x12e68a43fddb5791]_64, b)".toList = .ok (.i64x2Equal ['r'] (.lit (.w64 ⟨[0x9f3c5a17e6d2b480, 0x12e68a43fddb5791], rfl⟩)) (.slot ['b'])) ∧
    decode "r = f32x4.equal(a, b)".toList = .ok (.f32x4Equal ['r'] (.slot ['a']) (.slot ['b'])) ∧
    decode "r = f64x2.equal([0x9f3c5a17e6d2b480, 0x12e68a43fddb5791]_64, b)".toList = .ok (.f64x2Equal ['r'] (.lit (.w64 ⟨[0x9f3c5a17e6d2b480, 0x12e68a43fddb5791], rfl⟩)) (.slot ['b'])) ∧
    decode "r = i8x16.notEqual(a, b)".toList = .ok (.i8x16NotEqual ['r'] (.slot ['a']) (.slot ['b'])) ∧
    decode "r = i16x8.notEqual(a, b)".toList = .ok (.i16x8NotEqual ['r'] (.slot ['a']) (.slot ['b'])) := by
  simp only [String.reduceToList]; decide +kernel

theorem test_decode_compare_1 :
    decode "r = i32x4.notEqual(a, b)".toList = .ok (.i32x4NotEqual ['r'] (.slot ['a']) (.slot ['b'])) ∧
    decode "r = i64x2.notEqual([0x9f3c5a17e6d2b480, 0x12e68a43fddb5791]_64, b)".toList = .ok (.i64x2NotEqual ['r'] (.lit (.w64 ⟨[0x9f3c5a17e6d2b480, 0x12e68a43fddb5791], rfl⟩)) (.slot ['b'])) ∧
    decode "r = f32x4.notEqual(a, b)".toList = .ok (.f32x4NotEqual ['r'] (.slot ['a']) (.slot ['b'])) ∧
    decode "r = f64x2.notEqual([0x9f3c5a17e6d2b480, 0x12e68a43fddb5791]_64, b)".toList = .ok (.f64x2NotEqual ['r'] (.lit (.w64 ⟨[0x9f3c5a17e6d2b480, 0x12e68a43fddb5791], rfl⟩)) (.slot ['b'])) ∧
    decode "r = s8x16.lessThan(a, b)".toList = .ok (.s8x16LessThan ['r'] (.slot ['a']) (.slot ['b'])) ∧
    decode "r = s16x8.lessThan(a, b)".toList = .ok (.s16x8LessThan ['r'] (.slot ['a']) (.slot ['b'])) ∧
    decode "r = s32x4.lessThan(a, b)".toList = .ok (.s32x4LessThan ['r'] (.slot ['a']) (.slot ['b'])) ∧
    decode "r = s64x2.lessThan([0x9f3c5a17e6d2b480, 0x12e68a43fddb5791]_64, b)".toList = .ok (.s64x2LessThan ['r'] (.lit (.w64 ⟨[0x9f3c5a17e6d2b480, 0x12e68a43fddb5791], rfl⟩)) (.slot ['b'])) := by
  simp only [String.reduceToList]; decide +kernel

theorem test_decode_compare_2 :
    decode "r = u8x16.lessThan(a, b)".toList = .ok (.u8x16LessThan ['r'] (.slot ['a']) (.slot ['b'])) ∧
    decode "r = u16x8.lessThan(a, b)".toList = .ok (.u16x8LessThan ['r'] (.slot ['a']) (.slot ['b'])) ∧
    decode "r = u32x4.lessThan(a, b)".toList = .ok (.u32x4LessThan ['r'] (.slot ['a']) (.slot ['b'])) ∧
    decode "r = u64x2.lessThan([0x9f3c5a17e6d2b480, 0x12e68a43fddb5791]_64, b)".toList = .ok (.u64x2LessThan ['r'] (.lit (.w64 ⟨[0x9f3c5a17e6d2b480, 0x12e68a43fddb5791], rfl⟩)) (.slot ['b'])) ∧
    decode "r = f32x4.lessThan(a, b)".toList = .ok (.f32x4LessThan ['r'] (.slot ['a']) (.slot ['b'])) ∧
    decode "r = f64x2.lessThan([0x9f3c5a17e6d2b480, 0x12e68a43fddb5791]_64, b)".toList = .ok (.f64x2LessThan ['r'] (.lit (.w64 ⟨[0x9f3c5a17e6d2b480, 0x12e68a43fddb5791], rfl⟩)) (.slot ['b'])) ∧
    decode "r = s8x16.lessThanOrEqual(a, b)".toList = .ok (.s8x16LessThanOrEqual ['r'] (.slot ['a']) (.slot ['b'])) ∧
    decode "r = s16x8.lessThanOrEqual(a, b)".toList = .ok (.s16x8LessThanOrEqual ['r'] (.slot ['a']) (.slot ['b'])) := by
  simp only [String.reduceToList]; decide +kernel

theorem test_decode_compare_3 :
    decode "r = s32x4.lessThanOrEqual(a, b)".toList = .ok (.s32x4LessThanOrEqual ['r'] (.slot ['a']) (.slot ['b'])) ∧
    decode "r = s64x2.lessThanOrEqual([0x9f3c5a17e6d2b480, 0x12e68a43fddb5791]_64, b)".toList = .ok (.s64x2LessThanOrEqual ['r'] (.lit (.w64 ⟨[0x9f3c5a17e6d2b480, 0x12e68a43fddb5791], rfl⟩)) (.slot ['b'])) ∧
    decode "r = u8x16.lessThanOrEqual(a, b)".toList = .ok (.u8x16LessThanOrEqual ['r'] (.slot ['a']) (.slot ['b'])) ∧
    decode "r = u16x8.lessThanOrEqual(a, b)".toList = .ok (.u16x8LessThanOrEqual ['r'] (.slot ['a']) (.slot ['b'])) ∧
    decode "r = u32x4.lessThanOrEqual(a, b)".toList = .ok (.u32x4LessThanOrEqual ['r'] (.slot ['a']) (.slot ['b'])) ∧
    decode "r = u64x2.lessThanOrEqual([0x9f3c5a17e6d2b480, 0x12e68a43fddb5791]_64, b)".toList = .ok (.u64x2LessThanOrEqual ['r'] (.lit (.w64 ⟨[0x9f3c5a17e6d2b480, 0x12e68a43fddb5791], rfl⟩)) (.slot ['b'])) ∧
    decode "r = f32x4.lessThanOrEqual(a, b)".toList = .ok (.f32x4LessThanOrEqual ['r'] (.slot ['a']) (.slot ['b'])) ∧
    decode "r = f64x2.lessThanOrEqual([0x9f3c5a17e6d2b480, 0x12e68a43fddb5791]_64, b)".toList = .ok (.f64x2LessThanOrEqual ['r'] (.lit (.w64 ⟨[0x9f3c5a17e6d2b480, 0x12e68a43fddb5791], rfl⟩)) (.slot ['b'])) := by
  simp only [String.reduceToList]; decide +kernel

theorem test_decode_compare_4 :
    decode "r = s8x16.greaterThan(a, b)".toList = .ok (.s8x16GreaterThan ['r'] (.slot ['a']) (.slot ['b'])) ∧
    decode "r = s16x8.greaterThan(a, b)".toList = .ok (.s16x8GreaterThan ['r'] (.slot ['a']) (.slot ['b'])) ∧
    decode "r = s32x4.greaterThan(a, b)".toList = .ok (.s32x4GreaterThan ['r'] (.slot ['a']) (.slot ['b'])) ∧
    decode "r = s64x2.greaterThan([0x9f3c5a17e6d2b480, 0x12e68a43fddb5791]_64, b)".toList = .ok (.s64x2GreaterThan ['r'] (.lit (.w64 ⟨[0x9f3c5a17e6d2b480, 0x12e68a43fddb5791], rfl⟩)) (.slot ['b'])) ∧
    decode "r = u8x16.greaterThan(a, b)".toList = .ok (.u8x16GreaterThan ['r'] (.slot ['a']) (.slot ['b'])) ∧
    decode "r = u16x8.greaterThan(a, b)".toList = .ok (.u16x8GreaterThan ['r'] (.slot ['a']) (.slot ['b'])) ∧
    decode "r = u32x4.greaterThan(a, b)".toList = .ok (.u32x4GreaterThan ['r'] (.slot ['a']) (.slot ['b'])) ∧
    decode "r = u64x2.greaterThan([0x9f3c5a17e6d2b480, 0x12e68a43fddb5791]_64, b)".toList = .ok (.u64x2GreaterThan ['r'] (.lit (.w64 ⟨[0x9f3c5a17e6d2b480, 0x12e68a43fddb5791], rfl⟩)) (.slot ['b'])) := by
  simp only [String.reduceToList]; decide +kernel

theorem test_decode_compare_5 :
    decode "r = f32x4.greaterThan(a, b)".toList = .ok (.f32x4GreaterThan ['r'] (.slot ['a']) (.slot ['b'])) ∧
    decode "r = f64x2.greaterThan([0x9f3c5a17e6d2b480, 0x12e68a43fddb5791]_64, b)".toList = .ok (.f64x2GreaterThan ['r'] (.lit (.w64 ⟨[0x9f3c5a17e6d2b480, 0x12e68a43fddb5791], rfl⟩)) (.slot ['b'])) ∧
    decode "r = s8x16.greaterThanOrEqual(a, b)".toList = .ok (.s8x16GreaterThanOrEqual ['r'] (.slot ['a']) (.slot ['b'])) ∧
    decode "r = s16x8.greaterThanOrEqual(a, b)".toList = .ok (.s16x8GreaterThanOrEqual ['r'] (.slot ['a']) (.slot ['b'])) ∧
    decode "r = s32x4.greaterThanOrEqual(a, b)".toList = .ok (.s32x4GreaterThanOrEqual ['r'] (.slot ['a']) (.slot ['b'])) ∧
    decode "r = s64x2.greaterThanOrEqual([0x9f3c5a17e6d2b480, 0x12e68a43fddb5791]_64, b)".toList = .ok (.s64x2GreaterThanOrEqual ['r'] (.lit (.w64 ⟨[0x9f3c5a17e6d2b480, 0x12e68a43fddb5791], rfl⟩)) (.slot ['b'])) ∧
    decode "r = u8x16.greaterThanOrEqual(a, b)".toList = .ok (.u8x16GreaterThanOrEqual ['r'] (.slot ['a']) (.slot ['b'])) ∧
    decode "r = u16x8.greaterThanOrEqual(a, b)".toList = .ok (.u16x8GreaterThanOrEqual ['r'] (.slot ['a']) (.slot ['b'])) := by
  simp only [String.reduceToList]; decide +kernel

theorem test_decode_compare_6 :
    decode "r = u32x4.greaterThanOrEqual(a, b)".toList = .ok (.u32x4GreaterThanOrEqual ['r'] (.slot ['a']) (.slot ['b'])) ∧
    decode "r = u64x2.greaterThanOrEqual([0x9f3c5a17e6d2b480, 0x12e68a43fddb5791]_64, b)".toList = .ok (.u64x2GreaterThanOrEqual ['r'] (.lit (.w64 ⟨[0x9f3c5a17e6d2b480, 0x12e68a43fddb5791], rfl⟩)) (.slot ['b'])) ∧
    decode "r = f32x4.greaterThanOrEqual(a, b)".toList = .ok (.f32x4GreaterThanOrEqual ['r'] (.slot ['a']) (.slot ['b'])) ∧
    decode "r = f64x2.greaterThanOrEqual([0x9f3c5a17e6d2b480, 0x12e68a43fddb5791]_64, b)".toList = .ok (.f64x2GreaterThanOrEqual ['r'] (.lit (.w64 ⟨[0x9f3c5a17e6d2b480, 0x12e68a43fddb5791], rfl⟩)) (.slot ['b'])) := by
  simp only [String.reduceToList]; decide +kernel

theorem test_decode_memory_0 :
    decode "r = v8x16.load(m, 168)".toList = .ok (.v8x16Load ['r'] ['m'] 168) ∧
    decode "r = v16x8.load(m, 169)".toList = .ok (.v16x8Load ['r'] ['m'] 169) ∧
    decode "r = v32x4.load(m, 170)".toList = .ok (.v32x4Load ['r'] ['m'] 170) ∧
    decode "r = v64x2.load(m, 171)".toList = .ok (.v64x2Load ['r'] ['m'] 171) ∧
    decode "v8x16.store(m, 172, a)".toList = .ok (.v8x16Store ['m'] 172 (.slot ['a'])) ∧
    decode "v16x8.store(m, 173, a)".toList = .ok (.v16x8Store ['m'] 173 (.slot ['a'])) ∧
    decode "v32x4.store(m, 174, a)".toList = .ok (.v32x4Store ['m'] 174 (.slot ['a'])) ∧
    decode "v64x2.store(m, 175, a)".toList = .ok (.v64x2Store ['m'] 175 (.slot ['a'])) := by
  simp only [String.reduceToList]; decide +kernel

theorem test_decode_memory_1 :
    decode "r = v32x4.load1(m, 176)".toList = .ok (.v32x4Load1 ['r'] ['m'] 176) ∧
    decode "r = v32x4.load2(m, 177)".toList = .ok (.v32x4Load2 ['r'] ['m'] 177) ∧
    decode "r = v32x4.load3(m, 178)".toList = .ok (.v32x4Load3 ['r'] ['m'] 178) ∧
    decode "v32x4.store1(m, 179, a)".toList = .ok (.v32x4Store1 ['m'] 179 (.slot ['a'])) ∧
    decode "v32x4.store2(m, 180, a)".toList = .ok (.v32x4Store2 ['m'] 180 (.slot ['a'])) ∧
    decode "v32x4.store3(m, 181, a)".toList = .ok (.v32x4Store3 ['m'] 181 (.slot ['a'])) := by
  simp only [String.reduceToList]; decide +kernel

theorem test_decode_sign_0 :
    decode "r = f32x4.neg(a)".toList = .ok (.f32x4Neg ['r'] (.slot ['a'])) ∧
    decode "r = f64x2.neg(a)".toList = .ok (.f64x2Neg ['r'] (.slot ['a'])) ∧
    decode "r = f32x4.abs(a)".toList = .ok (.f32x4Abs ['r'] (.slot ['a'])) ∧
    decode "r = f64x2.abs(a)".toList = .ok (.f64x2Abs ['r'] (.slot ['a'])) ∧
    decode "r = f32x4.min(a, b)".toList = .ok (.f32x4Min ['r'] (.slot ['a']) (.slot ['b'])) ∧
    decode "r = f64x2.min([0x9f3c5a17e6d2b480, 0x12e68a43fddb5791]_64, b)".toList = .ok (.f64x2Min ['r'] (.lit (.w64 ⟨[0x9f3c5a17e6d2b480, 0x12e68a43fddb5791], rfl⟩)) (.slot ['b'])) ∧
    decode "r = f32x4.max(a, b)".toList = .ok (.f32x4Max ['r'] (.slot ['a']) (.slot ['b'])) ∧
    decode "r = f64x2.max([0x9f3c5a17e6d2b480, 0x12e68a43fddb5791]_64, b)".toList = .ok (.f64x2Max ['r'] (.lit (.w64 ⟨[0x9f3c5a17e6d2b480, 0x12e68a43fddb5791], rfl⟩)) (.slot ['b'])) := by
  simp only [String.reduceToList]; decide +kernel

theorem test_decode_sign_1 :
    decode "r = f32x4.minNum(a, b)".toList = .ok (.f32x4MinNum ['r'] (.slot ['a']) (.slot ['b'])) ∧
    decode "r = f64x2.minNum([0x9f3c5a17e6d2b480, 0x12e68a43fddb5791]_64, b)".toList = .ok (.f64x2MinNum ['r'] (.lit (.w64 ⟨[0x9f3c5a17e6d2b480, 0x12e68a43fddb5791], rfl⟩)) (.slot ['b'])) ∧
    decode "r = f32x4.maxNum(a, b)".toList = .ok (.f32x4MaxNum ['r'] (.slot ['a']) (.slot ['b'])) ∧
    decode "r = f64x2.maxNum([0x9f3c5a17e6d2b480, 0x12e68a43fddb5791]_64, b)".toList = .ok (.f64x2MaxNum ['r'] (.lit (.w64 ⟨[0x9f3c5a17e6d2b480, 0x12e68a43fddb5791], rfl⟩)) (.slot ['b'])) := by
  simp only [String.reduceToList]; decide +kernel

theorem test_decode_float_0 :
    decode "r = f32x4.add(a, b, TowardNegative)".toList = .ok (.f32x4Add ['r'] (.slot ['a']) (.slot ['b']) .towardNegative) ∧
    decode "r = f64x2.add(a, b, TowardZero)".toList = .ok (.f64x2Add ['r'] (.slot ['a']) (.slot ['b']) .towardZero) ∧
    decode "r = f32x4.sub(a, b, TiesToEven)".toList = .ok (.f32x4Sub ['r'] (.slot ['a']) (.slot ['b']) .tiesToEven) ∧
    decode "r = f64x2.sub(a, b, TowardPositive)".toList = .ok (.f64x2Sub ['r'] (.slot ['a']) (.slot ['b']) .towardPositive) ∧
    decode "r = f32x4.div(a, b, TowardNegative)".toList = .ok (.f32x4Div ['r'] (.slot ['a']) (.slot ['b']) .towardNegative) ∧
    decode "r = f64x2.div(a, b, TowardZero)".toList = .ok (.f64x2Div ['r'] (.slot ['a']) (.slot ['b']) .towardZero) ∧
    decode "r = f32x4.mul(a, b, TiesToEven)".toList = .ok (.f32x4Mul ['r'] (.slot ['a']) (.slot ['b']) .tiesToEven) ∧
    decode "r = f64x2.mul(a, b, TowardPositive)".toList = .ok (.f64x2Mul ['r'] (.slot ['a']) (.slot ['b']) .towardPositive) := by
  simp only [String.reduceToList]; decide +kernel

theorem test_decode_float_1 :
    decode "r = f32x4.sqrt(a, TowardNegative)".toList = .ok (.f32x4Sqrt ['r'] (.slot ['a']) .towardNegative) ∧
    decode "r = f64x2.sqrt(a, TowardZero)".toList = .ok (.f64x2Sqrt ['r'] (.slot ['a']) .towardZero) ∧
    decode "r = f32x4.reciprocalApproximation(a)".toList = .ok (.f32x4ReciprocalApproximation ['r'] (.slot ['a'])) ∧
    decode "r = f64x2.reciprocalApproximation(a)".toList = .ok (.f64x2ReciprocalApproximation ['r'] (.slot ['a'])) ∧
    decode "r = f32x4.reciprocalSqrtApproximation(a)".toList = .ok (.f32x4ReciprocalSqrtApproximation ['r'] (.slot ['a'])) ∧
    decode "r = f64x2.reciprocalSqrtApproximation(a)".toList = .ok (.f64x2ReciprocalSqrtApproximation ['r'] (.slot ['a'])) := by
  simp only [String.reduceToList]; decide +kernel

theorem test_decode_convert_0 :
    decode "r = f32x4.fromSignedInt(a, TiesToEven)".toList = .ok (.f32x4FromSignedInt ['r'] (.slot ['a']) .tiesToEven) ∧
    decode "r = f64x2.fromSignedInt(a, TowardPositive)".toList = .ok (.f64x2FromSignedInt ['r'] (.slot ['a']) .towardPositive) ∧
    decode "r = f32x4.fromUnsignedInt(a, TowardNegative)".toList = .ok (.f32x4FromUnsignedInt ['r'] (.slot ['a']) .towardNegative) ∧
    decode "r = f64x2.fromUnsignedInt(a, TowardZero)".toList = .ok (.f64x2FromUnsignedInt ['r'] (.slot ['a']) .towardZero) ∧
    decode "(r, fl) = s32x4.fromFloat(a)".toList = .ok (.s32x4FromFloat ['r'] ['f', 'l'] (.slot ['a'])) ∧
    decode "(r, fl) = s64x2.fromFloat(a)".toList = .ok (.s64x2FromFloat ['r'] ['f', 'l'] (.slot ['a'])) ∧
    decode "(r, fl) = u32x4.fromFloat(a)".toList = .ok (.u32x4FromFloat ['r'] ['f', 'l'] (.slot ['a'])) ∧
    decode "(r, fl) = u64x2.fromFloat(a)".toList = .ok (.u64x2FromFloat ['r'] ['f', 'l'] (.slot ['a'])) := by
  simp only [String.reduceToList]; decide +kernel

/-! ### Values: one vector of 95_test_vectors.md section 2 for each operation name and kind of interpretation -/

/-- 95_test_vectors.md section 2.1. -/
theorem test_value_b64x2Build :
    results .beDirect 64 "r = b64x2.build([f, t])".toList [['r']] = [[0, 1]] := by
  simp only [String.reduceToList]; decide +kernel

/-- 95_test_vectors.md section 2.1. -/
theorem test_value_i64x2Build :
    results .beHybrid 64 "r = i64x2.build([0x0123456789abcdef:i64, 0x1122334455667788:i64])".toList [['r']] = [[0x0123456789abcdef, 0x1122334455667788]] := by
  simp only [String.reduceToList]; decide +kernel

/-- 95_test_vectors.md section 2.1. -/
theorem test_value_f64x2Build :
    results .leDirect 64 "r = f64x2.build([0x3ff0000000000000:f64, 0x7ff0000000000001:f64])".toList [['r']] = [[0x3ff0000000000000, 0x7ff0000000000001]] := by
  simp only [String.reduceToList]; decide +kernel

/-- 95_test_vectors.md section 2.1. -/
theorem test_value_b16x8Splat :
    results .beDirect 16 "r = b16x8.splat(true)".toList [['r']] = [[1, 1, 1, 1, 1, 1, 1, 1]] := by
  simp only [String.reduceToList]; decide +kernel

/-- 95_test_vectors.md section 2.1. -/
theorem test_value_i16x8Splat :
    results .beHybrid 16 "r = i16x8.splat(0xbeef:i16)".toList [['r']] = [[0xbeef, 0xbeef, 0xbeef, 0xbeef, 0xbeef, 0xbeef, 0xbeef, 0xbeef]] := by
  simp only [String.reduceToList]; decide +kernel

/-- 95_test_vectors.md section 2.1. -/
theorem test_value_f32x4Splat :
    results .leDirect 32 "r = f32x4.splat(0xffc00000:f32)".toList [['r']] = [[0xffc00000, 0xffc00000, 0xffc00000, 0xffc00000]] := by
  simp only [String.reduceToList]; decide +kernel

/-- 95_test_vectors.md section 2.2. -/
theorem test_value_b64x2ExtractLane :
    results .beDirect 64 "r = b64x2.extractLane([f, t], 0)".toList [['r']] = [[0]] := by
  simp only [String.reduceToList]; decide +kernel

/-- 95_test_vectors.md section 2.2. -/
theorem test_value_i16x8ExtractLane :
    results .beHybrid 16 "r = i16x8.extractLane([0, 0x0001, 0x0002, 0x0003, 0x0004, 0x0005, 0x0006, 0xfffe]_16, 7)".toList [['r']] = [[0xfffe]] := by
  simp only [String.reduceToList]; decide +kernel

/-- 95_test_vectors.md section 2.2. -/
theorem test_value_f32x4ExtractLane :
    results .leDirect 32 "r = f32x4.extractLane([0x3f800000, 0x7f800001, 0, 0]_32, 1)".toList [['r']] = [[0x7f800001]] := by
  simp only [String.reduceToList]; decide +kernel

/-- 95_test_vectors.md section 2.2. -/
theorem test_value_b64x2ReplaceLane :
    results .beDirect 64 "r = b64x2.replaceLane([t, t], 1, false)".toList [['r']] = [[1, 0]] := by
  simp only [String.reduceToList]; decide +kernel

/-- 95_test_vectors.md section 2.2. -/
theorem test_value_i16x8ReplaceLane :
    results .beHybrid 16 "r = i16x8.replaceLane([0, 0, 0, 0, 0, 0, 0, 0]_16, 0, 0xffff:i16)".toList [['r']] = [[0xffff, 0x0000, 0x0000, 0x0000, 0x0000, 0x0000, 0x0000, 0x0000]] := by
  simp only [String.reduceToList]; decide +kernel

/-- 95_test_vectors.md section 2.2. -/
theorem test_value_f64x2ReplaceLane :
    results .leDirect 64 "r = f64x2.replaceLane([0, 0]_64, 1, 0x4008000000000000:f64)".toList [['r']] = [[0x0000000000000000, 0x4008000000000000]] := by
  simp only [String.reduceToList]; decide +kernel

/-- 95_test_vectors.md section 2.2. -/
theorem test_value_v64x2Select :
    results .beDirect 64 "r = v64x2.select([f, t], [0x1111111111111111, 0x1111111111111111]_64, [0x2222222222222222, 0x2222222222222222]_64)".toList [['r']] = [[0x2222222222222222, 0x1111111111111111]] := by
  simp only [String.reduceToList]; decide +kernel

/-- 95_test_vectors.md section 2.2. -/
theorem test_value_v64x2Swizzle :
    results .beHybrid 64 "r = v64x2.swizzle([0x000000000000aaaa, 0x000000000000bbbb]_64, [1, 0])".toList [['r']] = [[0x000000000000bbbb, 0x000000000000aaaa]] := by
  simp only [String.reduceToList]; decide +kernel

/-- 95_test_vectors.md section 2.2. -/
theorem test_value_v32x4Shuffle :
    results .leDirect 32 "r = v32x4.shuffle([0x0000000a, 0x0000000b, 0x0000000c, 0x0000000d]_32, [0x00000014, 0x00000015, 0x00000016, 0x00000017]_32, [7, 0, 4, 3])".toList [['r']] = [[0x00000017, 0x0000000a, 0x00000014, 0x0000000d]] := by
  simp only [String.reduceToList]; decide +kernel

/-- 95_test_vectors.md section 2.3. -/
theorem test_value_i16x8Add :
    results .beDirect 16 "r = i16x8.add([0xffff, 0x7fff, 0x8000, 0x00ff, 0, 0, 0, 0]_16, [0x0001, 0x0001, 0x8000, 0x0001, 0, 0, 0, 0]_16)".toList [['r']] = [[0x0000, 0x8000, 0x0000, 0x0100, 0x0000, 0x0000, 0x0000, 0x0000]] := by
  simp only [String.reduceToList]; decide +kernel

/-- 95_test_vectors.md section 2.3. -/
theorem test_value_i16x8Sub :
    results .beHybrid 16 "r = i16x8.sub([0, 0x8000, 0x7fff, 0, 0, 0, 0, 0]_16, [0x0001, 0x0001, 0xffff, 0, 0, 0, 0, 0]_16)".toList [['r']] = [[0xffff, 0x7fff, 0x8000, 0x0000, 0x0000, 0x0000, 0x0000, 0x0000]] := by
  simp only [String.reduceToList]; decide +kernel

/-- 95_test_vectors.md section 2.3. -/
theorem test_value_i16x8Mul :
    results .leDirect 16 "r = i16x8.mul([0xffff, 0x0100, 0x8000, 0x1234, 0, 0, 0, 0]_16, [0xffff, 0x0100, 0x0003, 0x0010, 0, 0, 0, 0]_16)".toList [['r']] = [[0x0001, 0x0000, 0x8000, 0x2340, 0x0000, 0x0000, 0x0000, 0x0000]] := by
  simp only [String.reduceToList]; decide +kernel

/-- 95_test_vectors.md section 2.3. -/
theorem test_value_i16x8Neg :
    results .beDirect 16 "r = i16x8.neg([0, 0x0001, 0x8000, 0xffff, 0x7fff, 0, 0, 0]_16)".toList [['r']] = [[0x0000, 0xffff, 0x8000, 0x0001, 0x8001, 0x0000, 0x0000, 0x0000]] := by
  simp only [String.reduceToList]; decide +kernel

/-- 95_test_vectors.md section 2.4. -/
theorem test_value_s16x8AddSaturate :
    results .beHybrid 16 "r = s16x8.addSaturate([0x7fff, 0x8000, 0xffff, 0x0001, 0x7fff, 0x8000, 0, 0x4000]_16, [0x0001, 0xffff, 0x0001, 0x0001, 0x8000, 0x7fff, 0x0001, 0x4000]_16)".toList [['r']] = [[0x7fff, 0x8000, 0x0000, 0x0002, 0xffff, 0xffff, 0x0001, 0x7fff]] := by
  simp only [String.reduceToList]; decide +kernel

/-- 95_test_vectors.md section 2.4. -/
theorem test_value_u16x8AddSaturate :
    results .leDirect 16 "r = u16x8.addSaturate([0x7fff, 0x8000, 0xffff, 0x0001, 0x7fff, 0x8000, 0, 0x4000]_16, [0x0001, 0xffff, 0x0001, 0x0001, 0x8000, 0x7fff, 0x0001, 0x4000]_16)".toList [['r']] = [[0x8000, 0xffff, 0xffff, 0x0002, 0xffff, 0xffff, 0x0001, 0x8000]] := by
  simp only [String.reduceToList]; decide +kernel

/-- 95_test_vectors.md section 2.4. -/
theorem test_value_s16x8SubSaturate :
    results .beDirect 16 "r = s16x8.subSaturate([0x7fff, 0x8000, 0xffff, 0x0001, 0x7fff, 0x8000, 0, 0x4000]_16, [0x0001, 0xffff, 0x0001, 0x0001, 0x8000, 0x7fff, 0x0001, 0x4000]_16)".toList [['r']] = [[0x7ffe, 0x8001, 0xfffe, 0x0000, 0x7fff, 0x8000, 0xffff, 0x0000]] := by
  simp only [String.reduceToList]; decide +kernel

/-- 95_test_vectors.md section 2.4. -/
theorem test_value_u16x8SubSaturate :
    results .beHybrid 16 "r = u16x8.subSaturate([0x7fff, 0x8000, 0xffff, 0x0001, 0x7fff, 0x8000, 0, 0x4000]_16, [0x0001, 0xffff, 0x0001, 0x0001, 0x8000, 0x7fff, 0x0001, 0x4000]_16)".toList [['r']] = [[0x7ffe, 0x0000, 0xfffe, 0x0000, 0x0000, 0x0001, 0x0000, 0x0000]] := by
  simp only [String.reduceToList]; decide +kernel

/-- 95_test_vectors.md section 2.5. -/
theorem test_value_i16x8ShiftLeftByScalar :
    results .leDirect 16 "r = i16x8.shiftLeftByScalar([0x8001, 0x0001, 0xffff, 0x00ff, 0, 0, 0, 0]_16, 0x0f:i8)".toList [['r']] = [[0x8000, 0x8000, 0x8000, 0x8000, 0x0000, 0x0000, 0x0000, 0x0000]] := by
  simp only [String.reduceToList]; decide +kernel

/-- 95_test_vectors.md section 2.5. -/
theorem test_value_s16x8ShiftRightByScalar :
    results .beDirect 16 "r = s16x8.shiftRightByScalar([0x8000, 0x7fff, 0xffff, 0x0100, 0, 0, 0, 0]_16, 0x0f:i8)".toList [['r']] = [[0xffff, 0x0000, 0xffff, 0x0000, 0x0000, 0x0000, 0x0000, 0x0000]] := by
  simp only [String.reduceToList]; decide +kernel

/-- 95_test_vectors.md section 2.5. -/
theorem test_value_u16x8ShiftRightByScalar :
    results .beHybrid 16 "r = u16x8.shiftRightByScalar([0x8000, 0x7fff, 0xffff, 0x0100, 0, 0, 0, 0]_16, 0x0f:i8)".toList [['r']] = [[0x0001, 0x0000, 0x0001, 0x0000, 0x0000, 0x0000, 0x0000, 0x0000]] := by
  simp only [String.reduceToList]; decide +kernel

/-- 95_test_vectors.md section 2.6. -/
theorem test_value_b64x2And :
    results .leDirect 64 "r = b64x2.and([t, f], [t, t])".toList [['r']] = [[1, 0]] := by
  simp only [String.reduceToList]; decide +kernel

/-- 95_test_vectors.md section 2.6. -/
theorem test_value_b64x2Or :
    results .beDirect 64 "r = b64x2.or([t, f], [t, t])".toList [['r']] = [[1, 1]] := by
  simp only [String.reduceToList]; decide +kernel

/-- 95_test_vectors.md section 2.6. -/
theorem test_value_b64x2Xor :
    results .beHybrid 64 "r = b64x2.xor([t, f], [t, t])".toList [['r']] = [[0, 1]] := by
  simp only [String.reduceToList]; decide +kernel

/-- 95_test_vectors.md section 2.6. -/
theorem test_value_b64x2Not :
    results .leDirect 64 "r = b64x2.not([t, f])".toList [['r']] = [[0, 1]] := by
  simp only [String.reduceToList]; decide +kernel

/-- 95_test_vectors.md section 2.7. -/
theorem test_value_v128And :
    results .beDirect 32 "r = v128.and([0xffff0000, 0x0f0f0f0f, 0xaaaaaaaa, 0]_32, [0xff00ff00, 0x00ff00ff, 0x55555555, 0xffffffff]_32)".toList [['r']] = [[0xff000000, 0x000f000f, 0x00000000, 0x00000000]] := by
  simp only [String.reduceToList]; decide +kernel

/-- 95_test_vectors.md section 2.7. -/
theorem test_value_v128Or :
    results .beHybrid 32 "r = v128.or([0xffff0000, 0x0f0f0f0f, 0xaaaaaaaa, 0]_32, [0xff00ff00, 0x00ff00ff, 0x55555555, 0xffffffff]_32)".toList [['r']] = [[0xffffff00, 0x0fff0fff, 0xffffffff, 0xffffffff]] := by
  simp only [String.reduceToList]; decide +kernel

/-- 95_test_vectors.md section 2.7. -/
theorem test_value_v128Xor :
    results .leDirect 32 "r = v128.xor([0xffff0000, 0x0f0f0f0f, 0xaaaaaaaa, 0]_32, [0xff00ff00, 0x00ff00ff, 0x55555555, 0xffffffff]_32)".toList [['r']] = [[0x00ffff00, 0x0ff00ff0, 0xffffffff, 0xffffffff]] := by
  simp only [String.reduceToList]; decide +kernel

/-- 95_test_vectors.md section 2.7. -/
theorem test_value_v128Not :
    results .beDirect 32 "r = v128.not([0xffff0000, 0x0f0f0f0f, 0xaaaaaaaa, 0]_32)".toList [['r']] = [[0x0000ffff, 0xf0f0f0f0, 0x55555555, 0xffffffff]] := by
  simp only [String.reduceToList]; decide +kernel

/-- 95_test_vectors.md section 2.8. -/
theorem test_value_b64x2AnyTrue :
    results .beHybrid 64 "r = b64x2.anyTrue([f, t])".toList [['r']] = [[1]] := by
  simp only [String.reduceToList]; decide +kernel

/-- 95_test_vectors.md section 2.8. -/
theorem test_value_b64x2AllTrue :
    results .leDirect 64 "r = b64x2.allTrue([t, t])".toList [['r']] = [[1]] := by
  simp only [String.reduceToList]; decide +kernel

/-- 95_test_vectors.md section 2.9. -/
theorem test_value_i32x4Equal :
    results .beDirect 32 "r = i32x4.equal([0xffffffff, 0x80000000, 0x7fffffff, 0x00000007]_32, [0x00000001, 0x7fffffff, 0x7fffffff, 0x00000008]_32)".toList [['r']] = [[0, 0, 1, 0]] := by
  simp only [String.reduceToList]; decide +kernel

/-- 95_test_vectors.md section 2.9. -/
theorem test_value_f64x2Equal :
    results .beHybrid 64 "r = f64x2.equal([0x7ff8000000000000, 0x8000000000000000]_64, [0x3ff0000000000000, 0]_64)".toList [['r']] = [[0, 1]] := by
  simp only [String.reduceToList]; decide +kernel

/-- 95_test_vectors.md section 2.9. -/
theorem test_value_i32x4NotEqual :
    results .leDirect 32 "r = i32x4.notEqual([0xffffffff, 0x80000000, 0x7fffffff, 0x00000007]_32, [0x00000001, 0x7fffffff, 0x7fffffff, 0x00000008]_32)".toList [['r']] = [[1, 1, 0, 1]] := by
  simp only [String.reduceToList]; decide +kernel

/-- 95_test_vectors.md section 2.9. -/
theorem test_value_f64x2NotEqual :
    results .beDirect 64 "r = f64x2.notEqual([0x7ff8000000000000, 0x8000000000000000]_64, [0x3ff0000000000000, 0]_64)".toList [['r']] = [[1, 0]] := by
  simp only [String.reduceToList]; decide +kernel

/-- 95_test_vectors.md section 2.9. -/
theorem test_value_s32x4LessThan :
    results .beHybrid 32 "r = s32x4.lessThan([0xffffffff, 0x80000000, 0x7fffffff, 0x00000007]_32, [0x00000001, 0x7fffffff, 0x7fffffff, 0x00000008]_32)".toList [['r']] = [[1, 1, 0, 1]] := by
  simp only [String.reduceToList]; decide +kernel

/-- 95_test_vectors.md section 2.9. -/
theorem test_value_u32x4LessThan :
    results .leDirect 32 "r = u32x4.lessThan([0xffffffff, 0x80000000, 0x7fffffff, 0x00000007]_32, [0x00000001, 0x7fffffff, 0x7fffffff, 0x00000008]_32)".toList [['r']] = [[0, 0, 0, 1]] := by
  simp only [String.reduceToList]; decide +kernel

/-- 95_test_vectors.md section 2.9. -/
theorem test_value_f64x2LessThan :
    results .beDirect 64 "r = f64x2.lessThan([0x7ff8000000000000, 0x8000000000000000]_64, [0x3ff0000000000000, 0]_64)".toList [['r']] = [[0, 0]] := by
  simp only [String.reduceToList]; decide +kernel

/-- 95_test_vectors.md section 2.9. -/
theorem test_value_s32x4LessThanOrEqual :
    results .beHybrid 32 "r = s32x4.lessThanOrEqual([0xffffffff, 0x80000000, 0x7fffffff, 0x00000007]_32, [0x00000001, 0x7fffffff, 0x7fffffff, 0x00000008]_32)".toList [['r']] = [[1, 1, 1, 1]] := by
  simp only [String.reduceToList]; decide +kernel

/-- 95_test_vectors.md section 2.9. -/
theorem test_value_u32x4LessThanOrEqual :
    results .leDirect 32 "r = u32x4.lessThanOrEqual([0xffffffff, 0x80000000, 0x7fffffff, 0x00000007]_32, [0x00000001, 0x7fffffff, 0x7fffffff, 0x00000008]_32)".toList [['r']] = [[0, 0, 1, 1]] := by
  simp only [String.reduceToList]; decide +kernel

/-- 95_test_vectors.md section 2.9. -/
theorem test_value_f64x2LessThanOrEqual :
    results .beDirect 64 "r = f64x2.lessThanOrEqual([0x7ff8000000000000, 0x8000000000000000]_64, [0x3ff0000000000000, 0]_64)".toList [['r']] = [[0, 1]] := by
  simp only [String.reduceToList]; decide +kernel

/-- 95_test_vectors.md section 2.9. -/
theorem test_value_s32x4GreaterThan :
    results .beHybrid 32 "r = s32x4.greaterThan([0xffffffff, 0x80000000, 0x7fffffff, 0x00000007]_32, [0x00000001, 0x7fffffff, 0x7fffffff, 0x00000008]_32)".toList [['r']] = [[0, 0, 0, 0]] := by
  simp only [String.reduceToList]; decide +kernel

/-- 95_test_vectors.md section 2.9. -/
theorem test_value_u32x4GreaterThan :
    results .leDirect 32 "r = u32x4.greaterThan([0xffffffff, 0x80000000, 0x7fffffff, 0x00000007]_32, [0x00000001, 0x7fffffff, 0x7fffffff, 0x00000008]_32)".toList [['r']] = [[1, 1, 0, 0]] := by
  simp only [String.reduceToList]; decide +kernel

/-- 95_test_vectors.md section 2.9. -/
theorem test_value_f64x2GreaterThan :
    results .beDirect 64 "r = f64x2.greaterThan([0x7ff8000000000000, 0x8000000000000000]_64, [0x3ff0000000000000, 0]_64)".toList [['r']] = [[0, 0]] := by
  simp only [String.reduceToList]; decide +kernel

/-- 95_test_vectors.md section 2.9. -/
theorem test_value_s32x4GreaterThanOrEqual :
    results .beHybrid 32 "r = s32x4.greaterThanOrEqual([0xffffffff, 0x80000000, 0x7fffffff, 0x00000007]_32, [0x00000001, 0x7fffffff, 0x7fffffff, 0x00000008]_32)".toList [['r']] = [[0, 0, 1, 0]] := by
  simp only [String.reduceToList]; decide +kernel

/-- 95_test_vectors.md section 2.9. -/
theorem test_value_u32x4GreaterThanOrEqual :
    results .leDirect 32 "r = u32x4.greaterThanOrEqual([0xffffffff, 0x80000000, 0x7fffffff, 0x00000007]_32, [0x00000001, 0x7fffffff, 0x7fffffff, 0x00000008]_32)".toList [['r']] = [[1, 1, 1, 0]] := by
  simp only [String.reduceToList]; decide +kernel

/-- 95_test_vectors.md section 2.9. -/
theorem test_value_f64x2GreaterThanOrEqual :
    results .beDirect 64 "r = f64x2.greaterThanOrEqual([0x7ff8000000000000, 0x8000000000000000]_64, [0x3ff0000000000000, 0]_64)".toList [['r']] = [[0, 1]] := by
  simp only [String.reduceToList]; decide +kernel

/-- 95_test_vectors.md section 2.11. -/
theorem test_value_f64x2Neg :
    results .beDirect 64 "r = f64x2.neg([0, 0xfff0000000000000]_64)".toList [['r']] = [[0x8000000000000000, 0x7ff0000000000000]] := by
  simp only [String.reduceToList]; decide +kernel

/-- 95_test_vectors.md section 2.11. -/
theorem test_value_f32x4Abs :
    results .beHybrid 32 "r = f32x4.abs([0xbf800000, 0x80000000, 0xffc00001, 0x80000001]_32)".toList [['r']] = [[0x3f800000, 0x00000000, 0x7fc00001, 0x00000001]] := by
  simp only [String.reduceToList]; decide +kernel

/-- 95_test_vectors.md section 2.11. -/
theorem test_value_f64x2Min :
    results .leDirect 64 "r = f64x2.min([0x8000000000000000, 0x7ff0000000000001]_64, [0, 0x3ff0000000000000]_64)".toList [['r']] = [[0x8000000000000000, 0x7ff8000000000001]] := by
  simp only [String.reduceToList]; decide +kernel

/-- 95_test_vectors.md section 2.11. -/
theorem test_value_f64x2Max :
    results .beDirect 64 "r = f64x2.max([0x8000000000000000, 0x7ff0000000000001]_64, [0, 0x3ff0000000000000]_64)".toList [['r']] = [[0x0000000000000000, 0x7ff8000000000001]] := by
  simp only [String.reduceToList]; decide +kernel

/-- 95_test_vectors.md section 2.11. -/
theorem test_value_f64x2MinNum :
    results .beHybrid 64 "r = f64x2.minNum([0x8000000000000000, 0x7ff0000000000001]_64, [0, 0x3ff0000000000000]_64)".toList [['r']] = [[0x8000000000000000, 0x3ff0000000000000]] := by
  simp only [String.reduceToList]; decide +kernel

/-- 95_test_vectors.md section 2.11. -/
theorem test_value_f64x2MaxNum :
    results .leDirect 64 "r = f64x2.maxNum([0x8000000000000000, 0x7ff0000000000001]_64, [0, 0x3ff0000000000000]_64)".toList [['r']] = [[0x0000000000000000, 0x3ff0000000000000]] := by
  simp only [String.reduceToList]; decide +kernel

/-- 95_test_vectors.md section 2.12. -/
theorem test_value_f32x4Add :
    results .beDirect 32 "r = f32x4.add([0x3f800000, 0x3f800000, 0xbf800000, 0]_32, [0x33800000, 0x33800001, 0xb3800000, 0x80000000]_32, TiesToEven)".toList [['r']] = [[0x3f800000, 0x3f800001, 0xbf800000, 0x00000000]] := by
  simp only [String.reduceToList]; decide +kernel

/-- 95_test_vectors.md section 2.12. -/
theorem test_value_f64x2Sub :
    results .beHybrid 64 "r = f64x2.sub([0, 0x7ff0000000000001]_64, [0x8000000000000000, 0x3ff0000000000000]_64, TiesToEven)".toList [['r']] = [[0x0000000000000000, 0x7ff8000000000001]] := by
  simp only [String.reduceToList]; decide +kernel

/-- 95_test_vectors.md section 2.12. -/
theorem test_value_f64x2Div :
    results .leDirect 64 "r = f64x2.div([0x3ff0000000000000, 0xbff0000000000000]_64, [0x4008000000000000, 0x8000000000000000]_64, TowardPositive)".toList [['r']] = [[0x3fd5555555555556, 0x7ff0000000000000]] := by
  simp only [String.reduceToList]; decide +kernel

/-- 95_test_vectors.md section 2.12. -/
theorem test_value_f32x4Mul :
    results .beDirect 32 "r = f32x4.mul([0x00000001, 0x00400000, 0x40400000, 0x7f800001]_32, [0x3f800000, 0x40000000, 0x00000001, 0]_32, TiesToEven)".toList [['r']] = [[0x00000001, 0x00800000, 0x00000003, 0x7fc00001]] := by
  simp only [String.reduceToList]; decide +kernel

/-- 95_test_vectors.md section 2.12. -/
theorem test_value_f64x2Sqrt :
    results .beHybrid 64 "r = f64x2.sqrt([0x4000000000000000, 0x8000000000000000]_64, TowardPositive)".toList [['r']] = [[0x3ff6a09e667f3bcd, 0x8000000000000000]] := by
  simp only [String.reduceToList]; decide +kernel

/-- 95_test_vectors.md section 2.14. -/
theorem test_value_f32x4FromSignedInt :
    results .leDirect 32 "r = f32x4.fromSignedInt([0x7fffffff, 0xffffffff, 0x01000001, 0x80000000]_32, TiesToEven)".toList [['r']] = [[0x4f000000, 0xbf800000, 0x4b800000, 0xcf000000]] := by
  simp only [String.reduceToList]; decide +kernel

/-- 95_test_vectors.md section 2.14. -/
theorem test_value_f32x4FromUnsignedInt :
    results .beDirect 32 "r = f32x4.fromUnsignedInt([0xffffffff, 0x80000000, 0x01000003, 0]_32, TiesToEven)".toList [['r']] = [[0x4f800000, 0x4f000000, 0x4b800002, 0x00000000]] := by
  simp only [String.reduceToList]; decide +kernel

/-- 95_test_vectors.md section 2.14. -/
theorem test_value_s32x4FromFloat :
    results .beHybrid 32 "(r, fl) = s32x4.fromFloat([0x3fc00000, 0xbfc00000, 0xbf400000, 0x80000000]_32)".toList [['r'], ['f', 'l']] = [[0x00000001, 0xffffffff, 0x00000000, 0x00000000], [0]] := by
  simp only [String.reduceToList]; decide +kernel

/-- 95_test_vectors.md section 2.14. -/
theorem test_value_u32x4FromFloat :
    results .leDirect 32 "(r, fl) = u32x4.fromFloat([0x3fc00000, 0xbf400000, 0x4f7fffff, 0x4f000000]_32)".toList [['r'], ['f', 'l']] = [[0x00000001, 0x00000000, 0xffffff00, 0x80000000], [0]] := by
  simp only [String.reduceToList]; decide +kernel

/-- 48_fp_arith.md R506, the fixed cases. -/
theorem test_value_f32x4ReciprocalApproximation :
    results .beDirect 32 "r = f32x4.reciprocalApproximation([0x7f800000, 0x80000000, 0x7f800001, 0]_32)".toList [['r']]
      = [[0, 0xff800000, 0x7fc00001, 0x7f800000]] := by
  simp only [String.reduceToList]; decide +kernel

/-- 48_fp_arith.md R507, the fixed cases. -/
theorem test_value_f64x2ReciprocalSqrtApproximation :
    results .leDirect 64 "r = f64x2.reciprocalSqrtApproximation([0xfff0000000000000, 0x8000000000000000]_64)".toList [['r']]
      = [[0x8000000000000000, 0xfff0000000000000]] := by
  simp only [String.reduceToList]; decide +kernel

/-! ### Loads and stores (95_test_vectors.md section 2.10) -/


theorem test_value_v8x16_load :
    results .leDirect 8 "r = v8x16.load(m, 1)".toList [['r']] = [[0x01, 0x02, 0x03, 0x04, 0x05, 0x06, 0x07, 0x08, 0x09, 0x0a, 0x0b, 0x0c, 0x0d, 0x0e, 0x0f, 0x10]] := by
  simp only [String.reduceToList]; decide +kernel

theorem test_value_v16x8_load :
    results .beDirect 16 "r = v16x8.load(m, 1)".toList [['r']] = [[0x0102, 0x0304, 0x0506, 0x0708, 0x090a, 0x0b0c, 0x0d0e, 0x0f10]] := by
  simp only [String.reduceToList]; decide +kernel

theorem test_value_v32x4_load :
    results .beHybrid 32 "r = v32x4.load(m, 16)".toList [['r']] = [[0x10111213, 0x14151617, 0x18191a1b, 0x1c1d1e1f]] := by
  simp only [String.reduceToList]; decide +kernel

theorem test_value_v64x2_load :
    results .leDirect 64 "r = v64x2.load(m, 1)".toList [['r']] = [[0x0807060504030201, 0x100f0e0d0c0b0a09]] := by
  simp only [String.reduceToList]; decide +kernel

theorem test_value_v32x4_load1 :
    results .beDirect 32 "r = v32x4.load1(m, 28)".toList [['r']] = [[0x1c1d1e1f, 0x00000000, 0x00000000, 0x00000000]] := by
  simp only [String.reduceToList]; decide +kernel

theorem test_value_v32x4_load2 :
    results .beHybrid 32 "r = v32x4.load2(m, 24)".toList [['r']] = [[0x18191a1b, 0x1c1d1e1f, 0x00000000, 0x00000000]] := by
  simp only [String.reduceToList]; decide +kernel

theorem test_value_v32x4_load3 :
    results .leDirect 32 "r = v32x4.load3(m, 20)".toList [['r']] = [[0x17161514, 0x1b1a1918, 0x1f1e1d1c, 0x00000000]] := by
  simp only [String.reduceToList]; decide +kernel

theorem test_value_v32x4_store :
    stored .leDirect "v32x4.store(n, 4, d)".toList =
      some ([0xee, 0xee, 0xee, 0xee, 0x00, 0x01, 0x02, 0x03, 0x04, 0x05, 0x06, 0x07, 0x08, 0x09, 0x0a, 0x0b, 0x0c, 0x0d, 0x0e, 0x0f, 0xee, 0xee, 0xee, 0xee], 1, none) := by
  simp only [String.reduceToList]; decide +kernel

theorem test_value_v8x16_store :
    stored .beHybrid "v8x16.store(n, 4, d)".toList =
      some ([0xee, 0xee, 0xee, 0xee, 0x00, 0x01, 0x02, 0x03, 0x04, 0x05, 0x06, 0x07, 0x08, 0x09, 0x0a, 0x0b, 0x0c, 0x0d, 0x0e, 0x0f, 0xee, 0xee, 0xee, 0xee], 1, none) := by
  simp only [String.reduceToList]; decide +kernel

theorem test_value_v16x8_store :
    stored .beHybrid "v16x8.store(n, 4, d)".toList =
      some ([0xee, 0xee, 0xee, 0xee, 0x01, 0x00, 0x03, 0x02, 0x05, 0x04, 0x07, 0x06, 0x09, 0x08, 0x0b, 0x0a, 0x0d, 0x0c, 0x0f, 0x0e, 0xee, 0xee, 0xee, 0xee], 1, none) := by
  simp only [String.reduceToList]; decide +kernel

theorem test_value_v64x2_store :
    stored .beHybrid "v64x2.store(n, 4, d)".toList =
      some ([0xee, 0xee, 0xee, 0xee, 0x07, 0x06, 0x05, 0x04, 0x03, 0x02, 0x01, 0x00, 0x0f, 0x0e, 0x0d, 0x0c, 0x0b, 0x0a, 0x09, 0x08, 0xee, 0xee, 0xee, 0xee], 1, none) := by
  simp only [String.reduceToList]; decide +kernel

theorem test_value_v32x4_store1 :
    stored .leDirect "v32x4.store1(n, 3, d)".toList =
      some ([0xee, 0xee, 0xee, 0x00, 0x01, 0x02, 0x03, 0xee, 0xee, 0xee, 0xee, 0xee, 0xee, 0xee, 0xee, 0xee, 0xee, 0xee, 0xee, 0xee, 0xee, 0xee, 0xee, 0xee], 1, none) := by
  simp only [String.reduceToList]; decide +kernel

theorem test_value_v32x4_store2 :
    stored .leDirect "v32x4.store2(n, 3, d)".toList =
      some ([0xee, 0xee, 0xee, 0x00, 0x01, 0x02, 0x03, 0x04, 0x05, 0x06, 0x07, 0xee, 0xee, 0xee, 0xee, 0xee, 0xee, 0xee, 0xee, 0xee, 0xee, 0xee, 0xee, 0xee], 1, none) := by
  simp only [String.reduceToList]; decide +kernel

theorem test_value_v32x4_store3 :
    stored .leDirect "v32x4.store3(n, 3, d)".toList =
      some ([0xee, 0xee, 0xee, 0x00, 0x01, 0x02, 0x03, 0x04, 0x05, 0x06, 0x07, 0x08, 0x09, 0x0a, 0x0b, 0xee, 0xee, 0xee, 0xee, 0xee, 0xee, 0xee, 0xee, 0xee], 1, none) := by
  simp only [String.reduceToList]; decide +kernel

/-! ### Reinterpretation (10_state.md R38, R44; 95_test_vectors.md E1) -/

theorem test_reinterpret_le_direct :
    (lanes .leDirect 8 (ofLanes .leDirect [0x0123456789abcdef#64, 0x1122334455667788#64])).take 2 = [0xef, 0xcd] := by decide +kernel

theorem test_reinterpret_be_direct :
    (lanes .beDirect 8 (ofLanes .beDirect [0x0123456789abcdef#64, 0x1122334455667788#64])).take 2 = [0x01, 0x23] := by decide +kernel

/-! ### Steps, faults and the end of a run (30_encoding.md R109, 60_exceptions.md R601 to R607) -/

/-- A step advances `pc` and sets no fault. -/
theorem test_step_advances :
    (run1 .leDirect "r = i32x4.splat(7:i32)".toList).map (fun s => (s.pc, s.fault)) = some (1, none) := by
  simp only [String.reduceToList]; decide +kernel

/-- P5a of 95_test_vectors.md: bytes 20 to 35 of a 32-byte Buffer. -/
theorem test_fault_bufferRange :
    (run1 .beHybrid "b = v32x4.load(m, 20)".toList).map (fun s => (s.pc, s.fault, s.slot ['b'])) =
      some (0, some (.bufferRange ['m'] 20 16), none) := by
  simp only [String.reduceToList]; decide +kernel

/-- P5b of 95_test_vectors.md: `q` is never written. -/
theorem test_fault_unwrittenSlot :
    (run1 .leDirect "c = i32x4.add(d, q)".toList).map (fun s => (s.pc, s.fault, s.slot ['c'])) =
      some (0, some (.unwrittenSlot ['q']), none) := by
  simp only [String.reduceToList]; decide +kernel

/-- R607: the unwritten slot comes before the range check. -/
theorem test_fault_order :
    (run1 .leDirect "v32x4.store(n, 20, q)".toList).map State.fault = some (some (.unwrittenSlot ['q'])) := by
  simp only [String.reduceToList]; decide +kernel

/-- A faulted state takes no step (10_state.md R54). -/
theorem test_fault_absorbs :
    faultOf (step ((launch .leDirect []).raise (.unwrittenSlot ['q']))) = some (.unwrittenSlot ['q']) := by decide +kernel

/-- `pc = n` with no fault: the run is over (10_state.md R48). -/
theorem test_run_over : refusalOf (step (launch .leDirect [])) = some .runOver := by decide +kernel

/-- The number whose bytes are the characters of a text, the first lowest. -/
def wordOf : Text → Nat
  | [] => 0
  | c :: r => c.toNat + 256 * wordOf r

/-- The first statement after reset, placed as the host places it. -/
theorem test_withFetchWord :
    (nextOf (step (State.reset.withFetchWord 256 (wordOf "r = i16x8.splat(0xbeef:i16)".toList)))).map
      (fun s => numbers .leDirect 16 (s.slot ['r'])) = some (List.replicate 8 0xbeef) := by
  simp only [String.reduceToList]; decide +kernel

/-- A Buffer the statement names is provided, so that the access runs (log entry 12). -/
theorem test_withFetchWord_buffer :
    (nextOf (step (State.reset.withFetchWord 256 (wordOf "r = v32x4.load(z, 0x10)".toList)))).map
      (fun s => (numbers .leDirect 32 (s.slot ['r']), s.fault)) = some ([0, 0, 0, 0], none) := by
  simp only [String.reduceToList]; decide +kernel

/-! ### The checks: one ill-formed term for each (30_encoding.md R108, P5c of 95_test_vectors.md) -/

/-- The refusal of a program by its first step. -/
def refused (ts : List String) : Option Refusal := refusalOf (step (launch .leDirect (ts.map String.toList)))


/-- No parentheses. -/
theorem test_refuses_statementForm :
    decode "i32x4.add a, b".toList = .error .statementForm := by
  simp only [String.reduceToList]; decide +kernel

/-- A numeral is no slot name. -/
theorem test_refuses_name :
    decode "5 = i32x4.neg(d)".toList = .error .statementForm := by
  simp only [String.reduceToList]; decide +kernel

theorem test_refuses_knownMnemonic :
    decode "r = i32x4.rotateLeft(d, 1)".toList = .error .knownMnemonic := by
  simp only [String.reduceToList]; decide +kernel

/-- Partial loads exist for `v32x4` only (R112). -/
theorem test_refuses_knownMnemonic_pair :
    decode "r = v16x8.load1(m, 0)".toList = .error .knownMnemonic := by
  simp only [String.reduceToList]; decide +kernel

theorem test_refuses_arity :
    decode "r = i32x4.add(d, d, d)".toList = .error .arity := by
  simp only [String.reduceToList]; decide +kernel

/-- The rounding mode has no default. -/
theorem test_refuses_arity_rounding :
    decode "r = f32x4.add(d, d)".toList = .error .arity := by
  simp only [String.reduceToList]; decide +kernel

/-- 16 is no LaneIdx16. -/
theorem test_refuses_operandTypes_index :
    decode "x = i8x16.extractLane(d, 16)".toList = .error .operandTypes := by
  simp only [String.reduceToList]; decide +kernel

/-- 8 is no LaneIdx8. -/
theorem test_refuses_operandTypes_shuffle :
    decode "r = v32x4.shuffle(d, d, [0, 1, 2, 8])".toList = .error .operandTypes := by
  simp only [String.reduceToList]; decide +kernel

/-- A pattern fits its width. -/
theorem test_refuses_operandTypes_pattern :
    decode "r = i8x16.splat(0x100:i8)".toList = .error .operandTypes := by
  simp only [String.reduceToList]; decide +kernel

theorem test_refuses_distinctDestinations :
    decode "(r, r) = s32x4.fromFloat(d)".toList = .error .distinctDestinations := by
  simp only [String.reduceToList]; decide +kernel

/-- A boolean vector literal in words or letters (log entry 1; R107 writes the letters). -/
theorem test_decode_booleanSpellings :
    decode "r = b64x2.not([true, f])".toList = .ok (.b64x2Not ['r'] (.lit ⟨[true, false], rfl⟩)) := by
  simp only [String.reduceToList]; decide +kernel

/-- `g` is a `b32x4`, `v8x16.select` asks for a `b8x16`; the whole program is refused. -/
theorem test_refuses_operandTypes_slot :
    refused ["g = i32x4.equal(d, d)", "r = v8x16.select(g, d, d)"] = some (.illFormed .operandTypes) := by
  simp only [refused, List.map, String.reduceToList]; decide +kernel

/-- 2^32 is no ByteOffset when OFFSET_BITS is 32. -/
theorem test_refuses_operandTypes_offset :
    refused ["r = v8x16.load(m, 0x100000000)"] = some (.illFormed .operandTypes) := by
  simp only [refused, List.map, String.reduceToList]; decide +kernel

/-- `r` is a `v128` (10_state.md R46). -/
theorem test_refuses_destinationTypes :
    refused ["r = i32x4.splat(1:i32)", "r = i32x4.extractLane(r, 0)"] = some (.illFormed .destinationTypes) := by
  simp only [refused, List.map, String.reduceToList]; decide +kernel

/-- No Buffer `z` in the launch. -/
theorem test_refuses_bufferKnown :
    refused ["r = v32x4.load(z, 0)"] = some (.illFormed .bufferKnown) := by
  simp only [refused, List.map, String.reduceToList]; decide +kernel

/-- WellFormed refuses a destination that is no identifier. -/
theorem test_wellFormed_refuses_name : Instr.wellFormed (.i8x16Neg ['5'] (.slot ['a'])) = false := by decide +kernel

/-- WellFormed refuses an empty operand name. -/
theorem test_wellFormed_refuses_operand : Instr.wellFormed (.i8x16Neg ['r'] (.slot [])) = false := by decide +kernel

/-- WellFormed refuses one slot for two results. -/
theorem test_wellFormed_refuses_twice : Instr.wellFormed (.s32x4FromFloat ['r'] ['r'] (.slot ['a'])) = false := by decide +kernel

/-- WellFormed refuses `t` as an element of a boolean list, where it is a literal. -/
theorem test_wellFormed_refuses_element :
    Instr.wellFormed (.b64x2Build ['r'] ⟨[.slot ['t'], .lit true], rfl⟩) = false := by decide +kernel


/-! ### Witnesses: for every statement with hypotheses, a state and operands that meet them all -/

/-- A state with a slot of every type: vectors `a` and `b`, boolean vectors `p q s u`, scalars `h i j k l o`, a boolean `w`; a
Buffer `m` of 64 bytes; `pc` 3 of no particular program. -/
def full : State :=
  { slots := [
      (['a'], .v128 0x7fc00001_ff800000_80000000_3f800000), (['b'], .v128 0x40000000_00000001_00000000_bf800000),
      (['h'], .i8 0x81), (['i'], .i16 0x8001), (['j'], .i32 0x80000001), (['k'], .i64 0x8000000000000001),
      (['l'], .f32 0x7f800001), (['o'], .f64 0x7ff0000000000001),
      (['p'], .b8x16 (Lanes.replicate 16 true)), (['q'], .b16x8 (Lanes.replicate 8 true)),
      (['s'], .b32x4 ⟨[true, false, false, true], rfl⟩), (['u'], .b64x2 ⟨[true, false], rfl⟩),
      (['w'], .boolean true)]
    pc := 3
    fault := none
    mem := [(['m'], ⟨64, [(1, 0x5a), (63, 0xff)]⟩)]
    program := []
    params := { laneMapping := .beHybrid, flushSubnormals := true, offsetBits := 6 }
    draws := 7 }

/-- The vector in slot `a`. -/
def va : V128 := 0x7fc00001_ff800000_80000000_3f800000

/-- The vector in slot `b`. -/
def vb : V128 := 0x40000000_00000001_00000000_bf800000

/-- The state is canonical, and a result may go to a new slot or to an operand's own. -/
theorem test_full_wf : full.wf = true := by decide +kernel



theorem test_witness_DecodeEncodeRoundTrip :
    Instr.wellFormed (.u64x2ShiftRightByScalar ['r'] (.lit (.w64 ⟨[0x8000000000000000, 7], rfl⟩)) (.slot ['h'])) = true := by decide +kernel

theorem test_witness_DecodedIsWellFormed :
    decode "r = v128.not(a)".toList = .ok (.v128Not ['r'] (.slot ['a'])) := by
  simp only [String.reduceToList]; decide +kernel

theorem test_witness_MnemonicSelects :
    (lex ['r', ' ', '=', ' ', 'v', '1', '2', '8', '.', 'n', 'o', 't', '(', 'a', ')']).bind parseStatement =
      some ⟨[['r']], ['v', '1', '2', '8', '.', 'n', 'o', 't'], [.elem (.word ['a'])]⟩ ∧
    decode ['r', ' ', '=', ' ', 'v', '1', '2', '8', '.', 'n', 'o', 't', '(', 'a', ')'] = .ok (.v128Not ['r'] (.slot ['a'])) := by decide +kernel

/-- A launch of two statements, the second of which reads what the first writes. -/
def pair : State := launch .beDirect ["r = v128.not(d)".toList, "x = i8x16.extractLane(r, 15)".toList]

/-- The instructions of that launch. -/
def pairInstrs : List Instr := [.v128Not ['r'] (.slot ['d']), .i8x16ExtractLane ['x'] (.slot ['r']) 15]


theorem test_witness_StepRunsDecoded :
    pair.fault = none ∧
    pair.instrs = .ok pairInstrs ∧
    pair.program[pair.pc]? = some "r = v128.not(d)".toList ∧
    decode "r = v128.not(d)".toList = .ok (.v128Not ['r'] (.slot ['d'])) := by
  simp only [pair, String.reduceToList]; decide +kernel

/-- A step to a next state, and a faulted state. -/
theorem test_witness_StepOutcomes :
    (nextOf (step pair)).isSome = true ∧
    (pair.raise (.unwrittenSlot ['q'])).fault = some (.unwrittenSlot ['q']) := by
  simp only [pair, String.reduceToList]; decide +kernel

/-- A program that fails a check, and a run at its end. -/
theorem test_witness_RefusedBeforeRun :
    (launch .leDirect ["r = i32x4.add(d)".toList]).fault = none ∧
    (launch .leDirect ["r = i32x4.add(d)".toList]).instrs = .error .arity ∧
    { pair with pc := 2 }.fault = none ∧ { pair with pc := 2 }.instrs = .ok pairInstrs ∧ { pair with pc := 2 }.pc = pairInstrs.length := by
  simp only [pair, String.reduceToList]; decide +kernel


theorem test_witness_LaunchFixed :
    (nextOf (step pair)).isSome = true := by
  simp only [pair, String.reduceToList]; decide +kernel

theorem test_witness_StepKeepsCanonicalForm :
    pair.wf = true ∧
    (nextOf (step pair)).isSome = true := by
  simp only [pair, String.reduceToList]; decide +kernel

/-- The two-statement launch with no slot written. -/
def fresh : State := { pair with slots := [] }


theorem test_witness_LaunchIsTyped :
    fresh.slots = [] ∧
    fresh.pc = 0 ∧
    fresh.instrs = .ok pairInstrs := by
  simp only [fresh, pair, String.reduceToList]; decide +kernel

/-- The state before the second statement, `r` written. -/
def second : State := { pair with slots := [(['r'], .v128 0)], pc := 1 }

/-- It is a state of a well-typed run. -/
theorem test_second_typed : second.typed := by
  refine ⟨pairInstrs, by simp only [second, pair, String.reduceToList]; decide +kernel, by decide, ?_⟩
  intro x v h
  simp only [second, State.slot, Slots.find] at h
  split at h
  · rename_i e; subst e; cases h; decide +kernel
  · cases h

theorem test_witness_StepKeepsTypes : second.typed ∧ (nextOf (step second)).isSome = true := by
  refine ⟨test_second_typed, ?_⟩
  simp only [second, pair, String.reduceToList]; decide +kernel

theorem test_witness_WellTypedRunsGoOn : second.typed ∧ second.fault = none ∧ second.pc < second.program.length :=
  ⟨test_second_typed, rfl, by decide⟩

/-- A launch of one statement, with no slot written. -/
def alone (t : Text) : State := { launch .beDirect [t] with slots := [] }

/-- A load of the last 16 of the 32 bytes of `m` executes. -/
theorem test_witness_WellTypedRunsGoOn_executes :
    (alone "c = v8x16.load(m, 16)".toList).typed ∧
    (nextOf (step (alone "c = v8x16.load(m, 16)".toList))).map (fun t => (t.pc, t.fault)) = some (1, none) := by
  refine ⟨⟨[.v8x16Load ['c'] ['m'] 16], ?_, Nat.zero_le _, fun x v e => by cases e⟩, ?_⟩ <;> (simp only [alone, String.reduceToList]; decide +kernel)

/-- One byte further it raises. -/
theorem test_witness_WellTypedRunsGoOn_bufferRange :
    (alone "c = v8x16.load(m, 17)".toList).typed ∧
    (nextOf (step (alone "c = v8x16.load(m, 17)".toList))).map (fun t => (t.pc, t.fault)) = some (0, some (.bufferRange ['m'] 17 16)) := by
  refine ⟨⟨[.v8x16Load ['c'] ['m'] 17], ?_, Nat.zero_le _, fun x v e => by cases e⟩, ?_⟩ <;> (simp only [alone, String.reduceToList]; decide +kernel)

/-- Of two unwritten operands the first one raises. -/
theorem test_witness_WellTypedRunsGoOn_unwrittenSlot :
    (alone "c = v128.and(y, x)".toList).typed ∧
    (nextOf (step (alone "c = v128.and(y, x)".toList))).map (fun t => (t.pc, t.fault)) = some (0, some (.unwrittenSlot ['y'])) := by
  refine ⟨⟨[.v128And ['c'] (.slot ['y']) (.slot ['x'])], ?_, Nat.zero_le _, fun x v e => by cases e⟩, ?_⟩ <;> (simp only [alone, String.reduceToList]; decide +kernel)

/-- `c = v32x4.select(z, a, y)`: the selector and the last operand are unwritten, the selector first. -/
theorem test_witness_UnwrittenSlotRaised :
    StatementFits (Instr.statement (.v32x4Select ['c'] (.slot ['z']) (.slot ['a']) (.slot ['y']))) full ∧
    unwrittenReads (Instr.statement (.v32x4Select ['c'] (.slot ['z']) (.slot ['a']) (.slot ['y']))) full = [['z'], ['y']] := by
  refine ⟨⟨by decide +kernel, ?_, by decide +kernel, ?_, by decide +kernel⟩, by decide +kernel⟩
  · intro a h; cases h
  · intro m h; cases h

/-- The same of a store, whose address is out of range: the unwritten slot comes first. -/
theorem test_witness_UnwrittenSlotRaised_store :
    StatementFits (Instr.statement (.v8x16Store ['m'] 60 (.slot ['z']))) full ∧
    unwrittenReads (Instr.statement (.v8x16Store ['m'] 60 (.slot ['z']))) full = [['z']] := by
  refine ⟨⟨by decide +kernel, ?_, by decide +kernel, ?_, by decide +kernel⟩, by decide +kernel⟩
  · intro a h; cases h; decide
  · intro m h; cases h; decide +kernel

/-- The first address out of range for each byte count. -/
theorem test_not_accessible (n a : Nat) (h : 64 < a + n) : ¬ Accessible full ['m'] a n := by
  rintro ⟨b, hb, h1, _⟩
  cases hb
  exact absurd h1 (Nat.not_le.mpr h)

/-- The last address in range for each byte count. -/
theorem test_accessible (n a : Nat) (h : a + n = 64) : Accessible full ['m'] a n :=
  ⟨_, rfl, Nat.le_of_eq h, by rw [h]; decide⟩

theorem test_witness_BufferRangeRaised :
    49 < 2 ^ full.params.offsetBits ∧ (full.buffer ['m']).isSome = true ∧ full.accepts ['r'] .v128 = true ∧
    Holds kV128 full (.slot ['a']) va ∧ ¬ Accessible full ['m'] 49 16 ∧ ¬ Accessible full ['m'] 61 4 ∧
    ¬ Accessible full ['m'] 57 8 ∧ ¬ Accessible full ['m'] 53 12 :=
  ⟨by decide, rfl, rfl, rfl, test_not_accessible _ _ (by decide), test_not_accessible _ _ (by decide),
    test_not_accessible _ _ (by decide), test_not_accessible _ _ (by decide)⟩

theorem test_witness_OnlyAccessesRaiseBufferRange :
    full.fault = none ∧
    (nextOf (exec (.v32x4Load3 ['r'] ['m'] 53) full)).map State.fault = some (some (.bufferRange ['m'] 53 12)) := by
  decide +kernel

/-- A state of one slot and one Buffer. -/
def one : State := { full with slots := [(['a'], .v128 va)] }

/-- The same with another value in the slot, other bytes in the Buffer, other parameters and another count of draws. -/
def other : State :=
  { one with
    slots := [(['a'], .v128 vb)]
    mem := [(['m'], ⟨64, [(60, 0x77)]⟩)]
    params := { laneMapping := .leDirect, flushSubnormals := false, offsetBits := 6 }
    draws := 0 }

/-- Two states of one shape that differ in all else, and a statement that raises in both. -/
theorem test_witness_FaultsIgnoreParameters :
    SameShape one other ∧ one.slot ['a'] ≠ other.slot ['a'] ∧ one.byte ['m'] 60 ≠ other.byte ['m'] 60 ∧
    nextOf (exec (.v32x4Store1 ['m'] 61 (.slot ['a'])) one) = some (one.raise (.bufferRange ['m'] 61 4)) ∧
    nextOf (exec (.v32x4Store1 ['m'] 61 (.slot ['a'])) other) = some (other.raise (.bufferRange ['m'] 61 4)) := by
  refine ⟨⟨?_, ?_, rfl⟩, by decide +kernel, by decide +kernel, by decide +kernel, by decide +kernel⟩
  · intro x
    simp only [State.slot, other, one, Slots.find]
    split_ifs <;> rfl
  · intro m
    simp only [State.buffer, other, one, full, Memory.find]
    split_ifs <;> rfl

/-- Each of the four checks, the earlier ones holding. -/
theorem test_witness_ChecksRefuseByName :
    refusalOf (exec (.v128Not ['r'] (.slot ['h'])) full) = some (.illFormed .operandTypes) ∧
    refusalOf (exec (.v8x16Load ['r'] ['m'] 64) full) = some (.illFormed .operandTypes) ∧
    refusalOf (exec (.v128Not ['h'] (.slot ['a'])) full) = some (.illFormed .destinationTypes) ∧
    refusalOf (exec (.v8x16Load ['r'] ['z'] 63) full) = some (.illFormed .bufferKnown) ∧
    refusalOf (exec (.u32x4FromFloat ['r'] ['r'] (.slot ['a'])) full) = some (.illFormed .distinctDestinations) := by
  decide +kernel


theorem test_witness_BuildPatternLanes :
    HoldsAll kI8 full (Lanes.set (Lanes.replicate 16 (.lit 1)) 0 (.slot ['h'])) (Lanes.set (Lanes.replicate 16 1) 0 0x81) ∧
    HoldsAll kI16 full (Lanes.set (Lanes.replicate 8 (.lit 1)) 0 (.slot ['i'])) (Lanes.set (Lanes.replicate 8 1) 0 0x8001) ∧
    HoldsAll kI32 full (Lanes.set (Lanes.replicate 4 (.lit 1)) 0 (.slot ['j'])) (Lanes.set (Lanes.replicate 4 1) 0 0x80000001) ∧
    HoldsAll kI64 full (Lanes.set (Lanes.replicate 2 (.lit 1)) 0 (.slot ['k'])) (Lanes.set (Lanes.replicate 2 1) 0 0x8000000000000001) ∧
    HoldsAll kF32 full (Lanes.set (Lanes.replicate 4 (.lit 1)) 0 (.slot ['l'])) (Lanes.set (Lanes.replicate 4 1) 0 0x7f800001) ∧
    HoldsAll kF64 full (Lanes.set (Lanes.replicate 2 (.lit 1)) 0 (.slot ['o'])) (Lanes.set (Lanes.replicate 2 1) 0 0x7ff0000000000001) ∧
    full.accepts ['r'] .v128 = true := ⟨by intro i; fin_cases i <;> rfl, by intro i; fin_cases i <;> rfl, by intro i; fin_cases i <;> rfl, by intro i; fin_cases i <;> rfl, by intro i; fin_cases i <;> rfl, by intro i; fin_cases i <;> rfl, rfl⟩

theorem test_witness_BuildBooleanLanes :
    HoldsAll kBool full (Lanes.set (Lanes.replicate 16 (.lit false)) 1 (.slot ['w'])) (Lanes.set (Lanes.replicate 16 false) 1 true) ∧
    HoldsAll kBool full (Lanes.set (Lanes.replicate 8 (.lit false)) 1 (.slot ['w'])) (Lanes.set (Lanes.replicate 8 false) 1 true) ∧
    HoldsAll kBool full (Lanes.set (Lanes.replicate 4 (.lit false)) 1 (.slot ['w'])) (Lanes.set (Lanes.replicate 4 false) 1 true) ∧
    HoldsAll kBool full (Lanes.set (Lanes.replicate 2 (.lit false)) 1 (.slot ['w'])) (Lanes.set (Lanes.replicate 2 false) 1 true) ∧
    full.accepts ['r'] kB8x16.ty = true ∧
    full.accepts ['r'] kB16x8.ty = true ∧
    full.accepts ['r'] kB32x4.ty = true ∧
    full.accepts ['r'] kB64x2.ty = true := ⟨by intro i; fin_cases i <;> rfl, by intro i; fin_cases i <;> rfl, by intro i; fin_cases i <;> rfl, by intro i; fin_cases i <;> rfl, rfl, rfl, rfl, rfl⟩

theorem test_witness_SplatLanes :
    Holds kI8 full (.slot ['h']) 0x81 ∧
    Holds kI16 full (.slot ['i']) 0x8001 ∧
    Holds kI32 full (.slot ['j']) 0x80000001 ∧
    Holds kI64 full (.slot ['k']) 0x8000000000000001 ∧
    Holds kF32 full (.slot ['l']) 0x7f800001 ∧
    Holds kF64 full (.slot ['o']) 0x7ff0000000000001 ∧
    Holds kBool full (.slot ['w']) true ∧
    full.accepts ['a'] .v128 = true ∧
    full.accepts ['p'] kB8x16.ty = true ∧
    full.accepts ['q'] kB16x8.ty = true ∧
    full.accepts ['s'] kB32x4.ty = true ∧
    full.accepts ['u'] kB64x2.ty = true := ⟨rfl, rfl, rfl, rfl, rfl, rfl, rfl, rfl, rfl, rfl, rfl, rfl⟩

theorem test_witness_ExtractedLane :
    Holds kV128 full (.slot ['a']) va ∧
    Holds kB8x16 full (.slot ['p']) (Lanes.replicate 16 true) ∧
    Holds kB16x8 full (.slot ['q']) (Lanes.replicate 8 true) ∧
    Holds kB32x4 full (.slot ['s']) ⟨[true, false, false, true], rfl⟩ ∧
    Holds kB64x2 full (.slot ['u']) ⟨[true, false], rfl⟩ ∧
    full.accepts ['h'] kI8.ty = true ∧
    full.accepts ['i'] kI16.ty = true ∧
    full.accepts ['j'] kI32.ty = true ∧
    full.accepts ['k'] kI64.ty = true ∧
    full.accepts ['l'] kF32.ty = true ∧
    full.accepts ['o'] kF64.ty = true ∧
    full.accepts ['w'] .boolean = true := ⟨rfl, rfl, rfl, rfl, rfl, rfl, rfl, rfl, rfl, rfl, rfl, rfl⟩

theorem test_witness_ReplacedLane :
    Holds kV128 full (.slot ['a']) va ∧
    Holds kB8x16 full (.slot ['p']) (Lanes.replicate 16 true) ∧
    Holds kB16x8 full (.slot ['q']) (Lanes.replicate 8 true) ∧
    Holds kB32x4 full (.slot ['s']) ⟨[true, false, false, true], rfl⟩ ∧
    Holds kB64x2 full (.slot ['u']) ⟨[true, false], rfl⟩ ∧
    Holds kI8 full (.slot ['h']) 0x81 ∧
    Holds kI16 full (.slot ['i']) 0x8001 ∧
    Holds kI32 full (.slot ['j']) 0x80000001 ∧
    Holds kI64 full (.slot ['k']) 0x8000000000000001 ∧
    Holds kF32 full (.slot ['l']) 0x7f800001 ∧
    Holds kF64 full (.slot ['o']) 0x7ff0000000000001 ∧
    Holds kBool full (.slot ['w']) true ∧
    full.accepts ['a'] .v128 = true ∧
    full.accepts ['p'] kB8x16.ty = true ∧
    full.accepts ['q'] kB16x8.ty = true ∧
    full.accepts ['s'] kB32x4.ty = true ∧
    full.accepts ['u'] kB64x2.ty = true := ⟨rfl, rfl, rfl, rfl, rfl, rfl, rfl, rfl, rfl, rfl, rfl, rfl, rfl, rfl, rfl, rfl, rfl⟩

theorem test_witness_SelectedLanes :
    Holds kB8x16 full (.slot ['p']) (Lanes.replicate 16 true) ∧
    Holds kB16x8 full (.slot ['q']) (Lanes.replicate 8 true) ∧
    Holds kB32x4 full (.slot ['s']) ⟨[true, false, false, true], rfl⟩ ∧
    Holds kB64x2 full (.slot ['u']) ⟨[true, false], rfl⟩ ∧
    Holds kV128 full (.slot ['a']) va ∧
    Holds kV128 full (.slot ['b']) vb ∧
    full.accepts ['b'] .v128 = true := ⟨rfl, rfl, rfl, rfl, rfl, rfl, rfl⟩

theorem test_witness_SwizzledLanes :
    Holds kV128 full (.slot ['a']) va ∧
    full.accepts ['a'] .v128 = true := ⟨rfl, rfl⟩

theorem test_witness_ShuffledLanes :
    Holds kV128 full (.slot ['a']) va ∧
    Holds kV128 full (.slot ['b']) vb ∧
    full.accepts ['r'] .v128 = true := ⟨rfl, rfl, rfl⟩

theorem test_witness_IntegerAddWraps :
    Holds kV128 full (.slot ['a']) va ∧
    Holds kV128 full (.slot ['b']) vb ∧
    full.accepts ['a'] .v128 = true := ⟨rfl, rfl, rfl⟩

theorem test_witness_IntegerSubWraps :
    Holds kV128 full (.slot ['a']) va ∧
    Holds kV128 full (.slot ['b']) vb ∧
    full.accepts ['a'] .v128 = true := ⟨rfl, rfl, rfl⟩

theorem test_witness_IntegerMulWraps :
    Holds kV128 full (.slot ['a']) va ∧
    Holds kV128 full (.slot ['b']) vb ∧
    full.accepts ['a'] .v128 = true := ⟨rfl, rfl, rfl⟩

theorem test_witness_AddSaturates :
    Holds kV128 full (.slot ['a']) va ∧
    Holds kV128 full (.slot ['b']) vb ∧
    full.accepts ['a'] .v128 = true := ⟨rfl, rfl, rfl⟩

theorem test_witness_SubSaturates :
    Holds kV128 full (.slot ['a']) va ∧
    Holds kV128 full (.slot ['b']) vb ∧
    full.accepts ['a'] .v128 = true := ⟨rfl, rfl, rfl⟩

theorem test_witness_FloatMinMax :
    Holds kV128 full (.slot ['a']) va ∧
    Holds kV128 full (.slot ['b']) vb ∧
    full.accepts ['a'] .v128 = true := ⟨rfl, rfl, rfl⟩

theorem test_witness_FloatMinNumMaxNum :
    Holds kV128 full (.slot ['a']) va ∧
    Holds kV128 full (.slot ['b']) vb ∧
    full.accepts ['a'] .v128 = true := ⟨rfl, rfl, rfl⟩

theorem test_witness_FloatAddSub :
    Holds kV128 full (.slot ['a']) va ∧
    Holds kV128 full (.slot ['b']) vb ∧
    full.accepts ['a'] .v128 = true := ⟨rfl, rfl, rfl⟩

theorem test_witness_FloatMulDiv :
    Holds kV128 full (.slot ['a']) va ∧
    Holds kV128 full (.slot ['b']) vb ∧
    full.accepts ['a'] .v128 = true := ⟨rfl, rfl, rfl⟩

theorem test_witness_IntegerNegWraps :
    Holds kV128 full (.slot ['a']) va ∧
    full.accepts ['r'] .v128 = true := ⟨rfl, rfl⟩

theorem test_witness_FloatSignOperations :
    Holds kV128 full (.slot ['a']) va ∧
    full.accepts ['r'] .v128 = true := ⟨rfl, rfl⟩

theorem test_witness_FloatSquareRoot :
    Holds kV128 full (.slot ['a']) va ∧
    full.accepts ['r'] .v128 = true := ⟨rfl, rfl⟩

theorem test_witness_ReciprocalApproximations :
    Holds kV128 full (.slot ['a']) va ∧
    full.accepts ['r'] .v128 = true := ⟨rfl, rfl⟩

theorem test_witness_IntegersToFloat :
    Holds kV128 full (.slot ['a']) va ∧
    full.accepts ['r'] .v128 = true := ⟨rfl, rfl⟩

theorem test_witness_ShiftsLeft :
    Holds kV128 full (.slot ['a']) va ∧
    Holds kI8 full (.slot ['h']) 0x81 ∧
    full.accepts ['a'] .v128 = true := ⟨rfl, rfl, rfl⟩

theorem test_witness_ShiftsRight :
    Holds kV128 full (.slot ['a']) va ∧
    Holds kI8 full (.slot ['h']) 0x81 ∧
    full.accepts ['a'] .v128 = true := ⟨rfl, rfl, rfl⟩

theorem test_witness_BooleanLogic :
    Holds kB8x16 full (.slot ['p']) (Lanes.replicate 16 true) ∧
    Holds kB16x8 full (.slot ['q']) (Lanes.replicate 8 true) ∧
    Holds kB32x4 full (.slot ['s']) ⟨[true, false, false, true], rfl⟩ ∧
    Holds kB64x2 full (.slot ['u']) ⟨[true, false], rfl⟩ ∧
    full.accepts ['r'] kB8x16.ty = true ∧
    full.accepts ['r'] kB16x8.ty = true ∧
    full.accepts ['r'] kB32x4.ty = true ∧
    full.accepts ['r'] kB64x2.ty = true := ⟨rfl, rfl, rfl, rfl, rfl, rfl, rfl, rfl⟩

theorem test_witness_BitwiseVector :
    Holds kV128 full (.slot ['a']) va ∧
    Holds kV128 full (.slot ['b']) vb ∧
    full.accepts ['b'] .v128 = true ∧
    16 * (7 + 1) ≤ 128 := ⟨rfl, rfl, rfl, by decide⟩

theorem test_witness_BooleanReductions :
    Holds kB8x16 full (.slot ['p']) (Lanes.replicate 16 true) ∧
    Holds kB16x8 full (.slot ['q']) (Lanes.replicate 8 true) ∧
    Holds kB32x4 full (.slot ['s']) ⟨[true, false, false, true], rfl⟩ ∧
    Holds kB64x2 full (.slot ['u']) ⟨[true, false], rfl⟩ ∧
    full.accepts ['w'] .boolean = true := ⟨rfl, rfl, rfl, rfl, rfl⟩

theorem test_witness_IntegerEquality :
    Holds kV128 full (.slot ['a']) va ∧
    Holds kV128 full (.slot ['b']) vb ∧
    full.accepts ['p'] kB8x16.ty = true ∧
    full.accepts ['q'] kB16x8.ty = true ∧
    full.accepts ['s'] kB32x4.ty = true ∧
    full.accepts ['u'] kB64x2.ty = true := ⟨rfl, rfl, rfl, rfl, rfl, rfl⟩

theorem test_witness_SignedOrder :
    Holds kV128 full (.slot ['a']) va ∧
    Holds kV128 full (.slot ['b']) vb ∧
    full.accepts ['p'] kB8x16.ty = true ∧
    full.accepts ['q'] kB16x8.ty = true ∧
    full.accepts ['s'] kB32x4.ty = true ∧
    full.accepts ['u'] kB64x2.ty = true := ⟨rfl, rfl, rfl, rfl, rfl, rfl⟩

theorem test_witness_UnsignedOrder :
    Holds kV128 full (.slot ['a']) va ∧
    Holds kV128 full (.slot ['b']) vb ∧
    full.accepts ['p'] kB8x16.ty = true ∧
    full.accepts ['q'] kB16x8.ty = true ∧
    full.accepts ['s'] kB32x4.ty = true ∧
    full.accepts ['u'] kB64x2.ty = true := ⟨rfl, rfl, rfl, rfl, rfl, rfl⟩

theorem test_witness_FloatComparisons :
    Holds kV128 full (.slot ['a']) va ∧
    Holds kV128 full (.slot ['b']) vb ∧
    full.accepts ['p'] kB8x16.ty = true ∧
    full.accepts ['q'] kB16x8.ty = true ∧
    full.accepts ['s'] kB32x4.ty = true ∧
    full.accepts ['u'] kB64x2.ty = true := ⟨rfl, rfl, rfl, rfl, rfl, rfl⟩

/-- The last address in range. -/
theorem test_witness_FullLoads :
    48 < 2 ^ full.params.offsetBits ∧
    Accessible full ['m'] 48 16 ∧
    full.accepts ['r'] .v128 = true := ⟨by decide, test_accessible _ _ rfl, rfl⟩

/-- The last addresses in range. -/
theorem test_witness_PartialLoads :
    60 < 2 ^ full.params.offsetBits ∧
    Accessible full ['m'] 60 4 ∧
    Accessible full ['m'] 56 8 ∧
    Accessible full ['m'] 52 12 ∧
    full.accepts ['r'] .v128 = true := ⟨by decide, test_accessible _ _ rfl, test_accessible _ _ rfl, test_accessible _ _ rfl, rfl⟩

theorem test_witness_FullStores :
    full.wf = true ∧
    48 < 2 ^ full.params.offsetBits ∧
    Accessible full ['m'] 48 16 ∧
    Holds kV128 full (.slot ['a']) va := ⟨test_full_wf, by decide, test_accessible _ _ rfl, rfl⟩

theorem test_witness_PartialStores :
    full.wf = true ∧
    60 < 2 ^ full.params.offsetBits ∧
    Accessible full ['m'] 60 4 ∧
    Accessible full ['m'] 56 8 ∧
    Accessible full ['m'] 52 12 ∧
    Holds kV128 full (.slot ['a']) va := ⟨test_full_wf, by decide, test_accessible _ _ rfl, test_accessible _ _ rfl, test_accessible _ _ rfl, rfl⟩

theorem test_witness_FloatToIntegers :
    Holds kV128 full (.slot ['a']) va ∧
    full.accepts ['r'] .v128 = true ∧
    full.accepts ['w'] .boolean = true ∧
    ['r'] ≠ ['w'] := ⟨rfl, rfl, rfl, by decide⟩

/-- The state after a store, and its load. -/
theorem test_witness_StoreThenLoad :
    full.wf = true ∧ Holds kV128 full (.slot ['a']) va ∧
    ∃ t, exec (.v32x4Store3 ['m'] 52 (.slot ['a'])) full = .next t ∧ t.fault = none ∧ t.accepts ['r'] .v128 = true := by
  refine ⟨test_full_wf, rfl, ?_⟩
  have h : (nextOf (exec (.v32x4Store3 ['m'] 52 (.slot ['a'])) full)).map
      (fun t => (t.fault, t.accepts ['r'] .v128)) = some (none, true) := by decide +kernel
  cases e : exec (.v32x4Store3 ['m'] 52 (.slot ['a'])) full with
  | next t =>
    rw [e] at h
    simp only [nextOf, Option.map_some, Option.some.injEq, Prod.mk.injEq] at h
    exact ⟨t, rfl, h.1, h.2⟩
  | fault f => rw [e] at h; cases h
  | refused r => rw [e] at h; cases h

/-- A direct mapping, and a store of 64-bit lanes that does not fault. -/
theorem test_witness_DirectMappingWidths :
    (launch .beDirect []).params.laneMapping ≠ .beHybrid ∧ (launch .beDirect []).wf = true ∧
    (nextOf (exec (.v64x2Store ['n'] 8 (.lit (.w64 ⟨[1, 2], rfl⟩))) (launch .beDirect []))).map State.fault = some none := by
  decide +kernel

/-- One third, rounded to nearest and up. -/
theorem test_witness_RoundingIsCorrect :
    (1 : Nat) ≠ 0 ∧ (3 : Nat) ≠ 0 ∧ binary32.roundRatio .tiesToEven false 1 3 0 = 0x3eaaaaab ∧
    binary64.roundRatio .towardPositive true 1 3 0 = 0xbfd5555555555555 := by decide +kernel


theorem test_witness_ArithmeticLaneClasses :
    Holds kV128 full (.slot ['a']) va ∧
    Holds kV128 full (.slot ['b']) vb ∧
    full.accepts ['r'] .v128 = true ∧
    full.params.flushSubnormals = true := ⟨rfl, rfl, rfl, rfl⟩

theorem test_witness_ReinterpretedBytes :
    (64 = 16 ∨ 64 = 32 ∨ 64 = 64) ∧ 1 < 128 / 64 := by decide

end Sys2Proof.Tests
end

section
/-! The step and its launch: what a step that answers a next state executes, and what an effect keeps of the launch
(10_state.md R48, 70_reset_and_hazards.md R642). -/

namespace Sys2Proof.Machine

/-- A step to a next state starts without a fault and executes statement `pc` of the checked program (30_encoding.md R109). -/
theorem step_next {s t : State} (h : step s = .next t) :
    s.fault = none ∧ ∃ is i, s.instrs = .ok is ∧ is[s.pc]? = some i ∧ exec i s = .next t := by
  unfold step at h
  split at h
  next => cases h
  next hf =>
    split at h
    next => cases h
    next is hl =>
      split at h
      next i hi => exact ⟨hf, is, i, hl, hi, h⟩
      next => cases h

/-- The checks of a program read the names of the Buffers, `OFFSET_BITS` and the texts, and nothing else of a state. -/
theorem State.instrs_congr {s t : State} (hm : t.mem.map Prod.fst = s.mem.map Prod.fst) (hp : t.params = s.params)
    (hc : t.program = s.program) : t.instrs = s.instrs := by
  unfold State.instrs State.launch
  rw [hm, hp, hc]

/-- No effect changes the checked program. -/
theorem Effect.instrs {s t : State} {dests : List (Ident × Ty)} {buffer : Option Ident} (h : Effect s dests buffer t) :
    t.instrs = s.instrs := by
  cases h with
  | unwritten x => rfl
  | range m a n => rfl
  | wrote ds n => exact State.instrs_congr (by simp) (by simp) (by simp)
  | stored m b b' => exact State.instrs_congr (by simp) rfl rfl

end Sys2Proof.Machine
end

section
/-! The canonical form along a run (log entry 4): each effect keeps it, so every step does. -/

namespace Sys2Proof.Machine

theorem State.wf_iff (s : State) :
    s.wf = true ↔ namesRising (s.slots.map Prod.fst) = true ∧ Memory.wf s.mem = true := by
  simp [State.wf]

/-- Every effect keeps the canonical form: results go to their places in the order of names, and a store replaces a
canonical Buffer by a canonical one. -/
theorem Effect.wf {s t : State} {dests : List (Ident × Ty)} {buffer : Option Ident} (h : Effect s dests buffer t)
    (hs : s.wf = true) : t.wf = true := by
  cases h with
  | unwritten x => exact hs
  | range m a n => exact hs
  | wrote ds n =>
    obtain ⟨hslots, hmem⟩ := (State.wf_iff s).1 hs
    exact (State.wf_iff _).2 ⟨by simpa using State.rising_putAll ds hslots, by simpa using hmem⟩
  | stored m b b' _ hb _ hkeep =>
    obtain ⟨hslots, hmem⟩ := (State.wf_iff s).1 hs
    exact (State.wf_iff _).2 ⟨hslots, Memory.wf_update hmem m (hkeep (Memory.wf_find hmem hb))⟩

/-- Settles O9: a step has one of the effects, and each keeps the canonical form. -/
theorem stepKeepsCanonicalForm : Obligations.StepKeepsCanonicalForm := by
  intro s t hs h
  obtain ⟨-, is, i, -, -, hexec⟩ := step_next h
  exact (exec_effect hexec).wf hs

end Sys2Proof.Machine
end

section
/-! Types along a run: what the checks of a loaded program say of each statement, the types before the next statement, and
the types of the slots after an effect (10_state.md R46, 30_encoding.md R108). -/

namespace Sys2Proof.Machine

/-! ### Loaded programs -/

/-- A program of at least one statement loads when its first statement passes the checks and the rest loads after it. -/
theorem loadFrom_cons_ok {l : Launch} {ts : Types} {t : Text} {r : List Text} {is : List Instr}
    (h : loadFrom l ts (t :: r) = .ok is) :
    ∃ i rest, is = i :: rest ∧ decode t = .ok i ∧ statementCheck l ts i.statement = none ∧
      loadFrom l (ts.after i.statement) r = .ok rest := by
  unfold loadFrom at h
  split at h
  next => cases h
  next i hi =>
    split at h
    next => cases h
    next hc =>
      split at h
      next => cases h
      next rest hr => cases h; exact ⟨i, rest, rfl, hi, hc, hr⟩

/-- Every statement of a loaded program passed the checks against the types that the statements before it give. -/
theorem statementCheck_of_loadFrom {l : Launch} {ts : Types} {program : List Text} {is : List Instr} {k : Nat} {i : Instr}
    (h : loadFrom l ts program = .ok is) (hi : is[k]? = some i) :
    statementCheck l ((is.take k).foldl (fun ts j => ts.after j.statement) ts) i.statement = none := by
  induction program generalizing ts is k with
  | nil => cases h; simp at hi
  | cons t r ih =>
    obtain ⟨j, rest, rfl, -, hcheck, hrest⟩ := loadFrom_cons_ok h
    cases k with
    | zero => cases hi; exact hcheck
    | succ k => simpa using ih hrest hi

theorem State.statementCheck_of_instrs {s : State} {is : List Instr} {k : Nat} {i : Instr} (h : s.instrs = .ok is)
    (hi : is[k]? = some i) : statementCheck s.launch (typesAt is k) i.statement = none :=
  statementCheck_of_loadFrom h hi

/-- A statement that passes the checks has distinct destinations (R108 `distinct_destinations`). -/
theorem distinctNames_of_statementCheck {l : Launch} {ts : Types} {st : Statement} (h : statementCheck l ts st = none) :
    distinctNames (st.dests.map Prod.fst) = true := by
  unfold statementCheck at h
  split_ifs at h with _ _ _ _ hd
  simpa using hd

/-! ### Types before a statement -/

/-- The types before the next statement: the destinations of this one have the types of its results. -/
theorem typesAt_succ {is : List Instr} {k : Nat} {i : Instr} (hi : is[k]? = some i) :
    typesAt is (k + 1) = i.statement.dests ++ typesAt is k := by
  simp [typesAt, List.take_add_one, hi, Types.after]

theorem Types.find_cons (x y : Ident) (τ : Ty) (ts : Types) :
    Types.find x ((y, τ) :: ts) = if y = x then some τ else Types.find x ts := rfl

/-! ### Types of slots after an effect -/

/-- Results written to distinct slots keep the agreement of a slot with the types known, the destinations' own among them. -/
theorem State.type_slot_putAll {s : State} {ts : Types} {x : Ident} {v : Value} (ds : List (Ident × Value))
    (hn : distinctNames (ds.map Prod.fst) = true) (hs : s.slot x = some v → Types.find x ts = some v.ty)
    (h : (s.putAll ds).slot x = some v) :
    Types.find x (ds.map (fun e => (e.1, e.2.ty)) ++ ts) = some v.ty := by
  induction ds generalizing s with
  | nil => exact hs h
  | cons e r ih =>
    obtain ⟨d, w⟩ := e
    simp only [List.map_cons, distinctNames, Bool.and_eq_true, Bool.not_eq_true', List.contains_eq_mem,
      decide_eq_false_iff_not] at hn
    obtain ⟨hd, hr⟩ := hn
    rw [State.putAll_cons] at h
    rw [List.map_cons, List.cons_append, Types.find_cons]
    split_ifs with hx
    · subst hx
      rw [State.slot_putAll _ r d hd, State.slot_eq, Slots.find_put_same] at h
      rw [Option.some.inj h]
    · refine ih hr (fun hput => hs ?_) h
      rwa [State.slot_eq, Slots.find_put_other (Ne.symm hx), ← State.slot_eq] at hput

/-- An effect of statement `pc` leads from a state of a well-typed run to one: a fault leaves slots and `pc`, and otherwise
`pc` moves on and the destinations have the types that the statement gives them. -/
theorem Effect.typed {s t : State} {is : List Instr} {i : Instr} {buffer : Option Ident} (hs : s.typed)
    (hl : s.instrs = .ok is) (hi : is[s.pc]? = some i) (h : Effect s i.statement.dests buffer t) : t.typed := by
  obtain ⟨is', hl', hpc, hty⟩ := hs
  obtain rfl : is' = is := Except.ok.inj (hl'.symm.trans hl)
  have hlt : s.pc + 1 ≤ is'.length := (List.getElem?_eq_some_iff.1 hi).1
  have hload : t.instrs = .ok is' := h.instrs.trans hl
  cases h with
  | unwritten x => exact ⟨is', hload, hpc, hty⟩
  | range m a n => exact ⟨is', hload, hpc, hty⟩
  | wrote ds n hd =>
    have hn : distinctNames (ds.map Prod.fst) = true := by
      have hcheck := distinctNames_of_statementCheck (State.statementCheck_of_instrs hl hi)
      simpa [← hd, Function.comp_def] using hcheck
    refine ⟨is', hload, by simpa using hlt, fun x v hx => ?_⟩
    simp only [State.drew_pc, State.advance_pc, State.putAll_pc, typesAt_succ hi, ← hd]
    exact State.type_slot_putAll ds hn (hty x v) hx
  | stored m b b' _ _ _ _ hd =>
    refine ⟨is', hload, by simpa using hlt, fun x v hx => ?_⟩
    simp only [State.advance_pc, State.setBuffer_pc, typesAt_succ hi, hd, List.nil_append]
    exact hty x v hx

/-- Settles O13: a step has one of the effects of statement `pc`, and each leads to a state of a well-typed run. -/
theorem stepKeepsTypes : Obligations.StepKeepsTypes := by
  intro s t hs h
  obtain ⟨-, is, i, hl, hi, hexec⟩ := step_next h
  exact (exec_effect hexec).typed hs hl hi

/-- A state that starts a well-formed program with no slot written is one of a well-typed run. -/
theorem State.typed_of_no_slots {s : State} {is : List Instr} (hslots : s.slots = []) (hpc : s.pc = 0)
    (hl : s.instrs = .ok is) : s.typed := by
  refine ⟨is, hl, by simp [hpc], fun x v hx => ?_⟩
  rw [State.slot_eq, hslots] at hx
  cases hx

/-- Settles O12: no slot is written at a launch, and the empty program of the reset state passes the checks. -/
theorem launchIsTyped : Obligations.LaunchIsTyped :=
  ⟨fun _ _ => State.typed_of_no_slots, State.typed_of_no_slots (is := []) rfl rfl rfl⟩

end Sys2Proof.Machine
end

section
/-! Lanes at another width (10_state.md R38, R44): the bytes of a pattern, and which 8-bit lane of the vector each one is. -/

namespace Sys2Proof.Machine

/-- A pattern of whole bytes is the number its bytes spell, the least significant first. -/
theorem toNat_eq_sum_bytes {B : Nat} (p : BitVec (8 * B)) :
    p.toNat = (Finset.range B).sum fun k => (p.extractLsb' (8 * k) 8).toNat * 2 ^ (8 * k) := by
  have hlt : p.toNat < 256 ^ B := by have := p.isLt; rwa [Nat.pow_mul] at this
  calc p.toNat = natOfBytes (bytesOfNat B p.toNat) := by rw [natOfBytes_bytesOfNat, Nat.mod_eq_of_lt hlt]
    _ = _ := by
      rw [natOfBytes_eq_sum, bytesOfNat_length]
      refine Finset.sum_congr rfl fun k hk => ?_
      have hk' : k < (bytesOfNat B p.toNat).length := by simpa using hk
      rw [List.getD_eq_getElem _ _ hk', bytesOfNat_getElem, BitVec.toNat_ofNat, BitVec.extractLsb'_toNat,
        Nat.shiftRight_eq_div_pow, Nat.pow_mul]

/-- The significance of byte `k` of a lane of `B` bytes: reversing the bits of a lane also reverses the order of its bytes,
and only `BE_DIRECT` does so (R38). -/
def laneByteRank (m : LaneMapping) (B k : Nat) : Nat := if m = .beDirect then B - 1 - k else k

theorem lsbFirst_iff (m : LaneMapping) : lsbFirst m = true ↔ m ≠ .beDirect := by
  cases m <;> decide

/-- Bits cut out of bits cut out. -/
theorem extractLsb'_extractLsb' {w i j k l : Nat} (p : BitVec w) (h : j + l ≤ k) :
    (p.extractLsb' i k).extractLsb' j l = p.extractLsb' (i + j) l := by
  apply BitVec.eq_of_getLsbD_eq
  intro b hb
  have hbk : j + b < k := by omega
  simp [hb, hbk, Nat.add_assoc]

/-- Bits cut out of a reversed pattern are the bits as far from the other end, reversed. -/
theorem extractLsb'_reverse {w i l : Nat} (p : BitVec w) (h : i + l ≤ w) :
    p.reverse.extractLsb' i l = (p.extractLsb' (w - l - i) l).reverse := by
  apply BitVec.eq_of_getLsbD_eq
  intro b hb
  have hbw : i + b < w := by omega
  have hbl : l - 1 - b < l := by omega
  have hplace : w - 1 - (i + b) = w - l - i + (l - 1 - b) := by omega
  simp only [BitVec.getLsbD_extractLsb', BitVec.getLsbD_reverse, BitVec.getMsbD_eq_getLsbD, hb, hbw, hbl, hplace]

/-- An 8-bit lane of the vector is a byte of the wider lane that it lies in (R44). -/
theorem lane_eight (m : LaneMapping) (v : V128) {B n k : Nat} (hk : k < B) :
    lane m 8 v (B * n + k) = (lane m (8 * B) v n).extractLsb' (8 * laneByteRank m B k) 8 := by
  have hindex : 8 * (B * n + k) = 8 * B * n + 8 * k := by ring
  unfold lane orient laneByteRank
  by_cases hm : m = .beDirect
  · have hl : ¬ lsbFirst m = true := by simpa [lsbFirst_iff] using hm
    have hmirror : 8 * B - 8 - 8 * (B - 1 - k) = 8 * k := by omega
    rw [if_neg hl, if_neg hl, if_pos hm, extractLsb'_reverse _ (by omega), hmirror,
      extractLsb'_extractLsb' _ (by omega), hindex]
  · have hl : lsbFirst m = true := (lsbFirst_iff m).2 hm
    rw [if_pos hl, if_pos hl, if_neg hm, extractLsb'_extractLsb' _ (by omega), hindex]

/-- A lane is the number its 8-bit lanes spell (R44). -/
theorem lane_toNat_eq_sum (m : LaneMapping) (v : V128) (B n : Nat) :
    (lane m (8 * B) v n).toNat =
      (Finset.range B).sum fun k => (lane m 8 v (B * n + k)).toNat * 2 ^ (8 * laneByteRank m B k) := by
  have hbytes : ∀ k ∈ Finset.range B, (lane m 8 v (B * n + k)).toNat * 2 ^ (8 * laneByteRank m B k) =
      ((lane m (8 * B) v n).extractLsb' (8 * laneByteRank m B k) 8).toNat * 2 ^ (8 * laneByteRank m B k) :=
    fun k hk => by rw [lane_eight m v (Finset.mem_range.1 hk)]
  rw [Finset.sum_congr rfl hbytes, toNat_eq_sum_bytes]
  unfold laneByteRank
  split_ifs
  · exact (Finset.sum_range_reflect _ B).symm
  · rfl

/-- The first 8-bit lane of a vector made of two 64-bit lanes is the byte of the first of them at its significance. -/
theorem lane_eight_ofLanes_zero (m : LaneMapping) (p q : BitVec 64) :
    lane m 8 (ofLanes m [p, q]) 0 = p.extractLsb' (8 * laneByteRank m 8 0) 8 := by
  have h := lane_eight m (ofLanes m [p, q]) (B := 8) (n := 0) (k := 0) (by decide)
  rwa [lane_ofLanes m (n := 0) [p, q] (by decide)] at h

/-- Settles O60: each 8-bit lane is a byte of the wider lane, at the significance that the bit order gives it; so the lanes
sum up, and the first 8-bit lane of the source's vector is the highest or the lowest byte of its first lane. -/
theorem reinterpretedBytes : Obligations.ReinterpretedBytes := by
  refine ⟨fun m v W n hW _ => ?_, fun m => ?_⟩
  · obtain ⟨B, rfl⟩ : 8 ∣ W := by rcases hW with rfl | rfl | rfl <;> decide
    rw [Nat.mul_div_cancel_left B (by decide)]
    exact lane_toNat_eq_sum m v B n
  · rw [lane_eight_ofLanes_zero]
    unfold laneByteRank
    split_ifs <;> rfl

end Sys2Proof.Machine
end

section
/-! Lane width and memory under the direct mappings (20_memory.md R74, R75): the bytes of a lane in memory are its 8-bit lanes,
so a full load or store of any width reads or writes the 16 8-bit lanes in order (R78). -/

namespace Sys2Proof.Machine

/-! ### The bytes of a lane -/

/-- Under a direct mapping byte order in memory and lane order in a wider lane are the same (R74, R75). -/
theorem byteRank_eq_laneByteRank {m : LaneMapping} (hm : m ≠ .beHybrid) (B k : Nat) :
    byteRank m B k = laneByteRank m B k := by
  cases m with
  | leDirect => rfl
  | beDirect => rfl
  | beHybrid => contradiction

/-- The bytes written for a lane are the 8-bit lanes that lie in it. -/
theorem patternBytes_lane {m : LaneMapping} (hm : m ≠ .beHybrid) (v : V128) (B n : Nat) :
    patternBytes m (lane m (8 * B) v n) = (List.range B).map fun k => lane m 8 v (B * n + k) := by
  have hlen : 8 * B / 8 = B := Nat.mul_div_cancel_left B (by decide)
  refine List.ext_getElem (by simp [hlen]) fun k _ hk => ?_
  have hkB : k < B := by simpa using hk
  rw [patternBytes_getElem, List.getElem_map, List.getElem_range, lane_eight m v hkB, hlen,
    byteRank_eq_laneByteRank hm]

/-- A range cut into `L` blocks of `B`. -/
theorem flatMap_range_blocks {α : Type} (f : Nat → α) (B L : Nat) :
    ((List.range L).flatMap fun n => (List.range B).map fun k => f (B * n + k)) = (List.range (B * L)).map f := by
  induction L with
  | zero => rfl
  | succ L ih => simp [List.range_succ, ih, Nat.mul_succ, List.range_add]

/-- A full load or store takes 16 bytes. -/
theorem lanes_bytes {B L : Nat} (hBL : B * L = 16) : L * (8 * B / 8) = 16 := by
  rw [Nat.mul_div_cancel_left B (by decide), Nat.mul_comm, hBL]

/-- `L` lanes of `B` bytes make up a vector of 16 bytes. -/
theorem lanes_eq_map_range (m : LaneMapping) (v : V128) {B L : Nat} (hBL : B * L = 16) :
    lanes m (8 * B) v = (List.range L).map (lane m (8 * B) v) := by
  have hB : 0 < B := Nat.pos_of_mul_pos_right (hBL ▸ (by decide : 0 < 16))
  have hcount : 128 / (8 * B) = L := Nat.div_eq_of_eq_mul_right (by omega) (by rw [Nat.mul_assoc, hBL])
  rw [lanes, hcount]

/-- The bytes written for all the lanes of a vector, whatever their width, are its 8-bit lanes. -/
theorem flatMap_patternBytes_lanes {m : LaneMapping} (hm : m ≠ .beHybrid) (v : V128) {B L : Nat} (hBL : B * L = 16) :
    (lanes m (8 * B) v).flatMap (patternBytes m) = lanes m 8 v := by
  simp only [lanes_eq_map_range m v hBL, List.flatMap_map, patternBytes_lane hm]
  rw [flatMap_range_blocks, hBL]
  rfl

/-! ### Stores -/

/-- Bytes written one list after the other. -/
theorem Buffer.setBytes_append (b : Buffer) (a : Nat) (us vs : List Byte) :
    b.setBytes a (us ++ vs) = (b.setBytes a us).setBytes (a + us.length) vs := by
  induction us generalizing b a with
  | nil => rfl
  | cons u us ih =>
    rw [List.cons_append, Buffer.setBytes, ih, List.length_cons, Nat.add_right_comm, Nat.add_assoc a]
    rfl

/-- A store writes the bytes of its lanes from its address on (20_memory.md R72, 46_load_store.md R432). -/
theorem storeLanes_eq_setBytes (m : LaneMapping) {W : Nat} (b : Buffer) (a : Nat) (ps : List (BitVec W)) :
    storeLanes m b a ps = b.setBytes a (ps.flatMap (patternBytes m)) := by
  induction ps generalizing b a with
  | nil => rfl
  | cons p r ih => rw [storeLanes, ih, List.flatMap_cons, Buffer.setBytes_append, memWrite_eq, patternBytes_length]

/-- A full store under a direct mapping writes the 8-bit lanes in order, whatever the width of its lanes (R432). -/
theorem storeLanes_take_eq_setBytes {m : LaneMapping} (hm : m ≠ .beHybrid) (b : Buffer) (a : Nat) (v : V128) {B L : Nat}
    (hBL : B * L = 16) : storeLanes m b a ((lanes m (8 * B) v).take L) = b.setBytes a (lanes m 8 v) := by
  have hall : (lanes m (8 * B) v).length ≤ L := by simp [lanes_eq_map_range m v hBL]
  rw [List.take_of_length_le hall, storeLanes_eq_setBytes, flatMap_patternBytes_lanes hm v hBL]

/-- What a full store under a direct mapping leaves in the Buffer does not depend on the width of the lanes. -/
theorem storeLanes_take_eq_eight {m : LaneMapping} (hm : m ≠ .beHybrid) (b : Buffer) (a : Nat) (v : V128) {B L : Nat}
    (hBL : B * L = 16) : storeLanes m b a ((lanes m (8 * B) v).take L) = storeLanes m b a ((lanes m 8 v).take 16) :=
  (storeLanes_take_eq_setBytes hm b a v hBL).trans (storeLanes_take_eq_setBytes hm b a v (B := 1) (L := 16) rfl).symm

/-- The four full stores under a direct mapping are one function (R78). -/
theorem execStoreLanes_eq_eight {s : State} (hm : s.params.laneMapping ≠ .beHybrid) (mem : Ident) (addr : Nat)
    (data : VOperand) {B L : Nat} (hBL : B * L = 16) :
    execStoreLanes s mem addr data (8 * B) L = execStoreLanes s mem addr data 8 16 := by
  unfold execStoreLanes
  simp only [storeLanes_take_eq_eight hm _ _ _ hBL, lanes_bytes hBL]

/-- Two operands are read as values only when each is. -/
theorem Got.both_eq_val {α β : Type} {g : Got α} {h : Got β} {p : α × β} (hp : g.both h = .val p) :
    g = .val p.1 ∧ h = .val p.2 := by
  cases g <;> cases h <;> cases hp
  exact ⟨rfl, rfl⟩

/-- A ByteOffset operand is read as the number written. -/
theorem eq_of_readOffset {s : State} {addr a : Nat} (h : readOffset s addr = .val a) : a = addr := by
  unfold readOffset at h
  split_ifs at h
  cases h
  rfl

/-- A store that answers a next state without a fault has written the lanes of its operand, in range. -/
theorem execStoreLanes_next {s t : State} {mem : Ident} {addr W L : Nat} {data : VOperand}
    (hexec : execStoreLanes s mem addr data W L = .next t) (ht : t.fault = none) :
    ∃ b v, s.buffer mem = some b ∧ read kV128 s data = .val v ∧ addr + L * (W / 8) ≤ b.len ∧
      t = (s.setBuffer mem (storeLanes s.params.laneMapping b addr ((lanes s.params.laneMapping W v).take L))).advance := by
  obtain ⟨-, -, -, ⟨x, -, rfl⟩ | ⟨⟨a, v⟩, hp, h⟩⟩ := withOperands_next hexec
  · cases ht
  · obtain ⟨ha, hv⟩ := Got.both_eq_val hp
    obtain rfl : a = addr := eq_of_readOffset ha
    cases hb : s.buffer mem with
    | none => simp [hb] at h
    | some b =>
      simp only [hb] at h
      split_ifs at h with hr <;> cases h
      · exact ⟨b, v, rfl, hv, (of_decide_eq_true hr).1, rfl⟩
      · cases ht

/-! ### Loads -/

/-- A pattern read from memory under a direct mapping is the lane whose 8-bit lanes are the bytes read. -/
theorem memRead_eq_lane {m : LaneMapping} (hm : m ≠ .beHybrid) {b : Buffer} {addr B n : Nat} {v : V128}
    (hv : ∀ k < B, lane m 8 v (B * n + k) = b.byte (addr + k)) : memRead m b addr (8 * B) = lane m (8 * B) v n := by
  apply BitVec.eq_of_toNat_eq
  rw [memRead_toNat m b addr _ ⟨B, rfl⟩, lane_toNat_eq_sum, Nat.mul_div_cancel_left B (by decide)]
  refine Finset.sum_congr rfl fun k hk => ?_
  rw [hv k (Finset.mem_range.1 hk), byteRank_eq_laneByteRank hm]

/-- One byte read as a pattern is that byte. -/
theorem memRead_eight (m : LaneMapping) (b : Buffer) (addr : Nat) : memRead m b addr 8 = b.byte addr := by
  apply BitVec.eq_of_toNat_eq
  rw [memRead_toNat m b addr 8 (by decide)]
  simp [byteRank]

/-- The 8-bit lanes of 16 bytes loaded are those bytes. -/
theorem lane_eight_load (m : LaneMapping) (b : Buffer) (addr : Nat) {j : Nat} (hj : j < 16) :
    lane m 8 (ofLanes m (loadLanes m 8 16 b addr)) j = b.byte (addr + j) := by
  rw [lane_ofLanes m _ (by omega)]
  simp [loadLanes, hj, memRead_eight]

/-- The vector that a full load reads under a direct mapping does not depend on the width of its lanes. -/
theorem ofLanes_loadLanes {m : LaneMapping} (hm : m ≠ .beHybrid) (b : Buffer) (addr : Nat) {B L : Nat}
    (hBL : B * L = 16) :
    ofLanes m (loadLanes m (8 * B) L b addr) = ofLanes m (loadLanes m 8 16 b addr) := by
  have hB : 0 < B := Nat.pos_of_mul_pos_right (hBL ▸ (by decide : 0 < 16))
  have hd : 8 * B ∣ 128 := ⟨L, by rw [Nat.mul_assoc, hBL]⟩
  have hlanes : loadLanes m (8 * B) L b addr = lanes m (8 * B) (ofLanes m (loadLanes m 8 16 b addr)) := by
    rw [lanes_eq_map_range m _ hBL, loadLanes]
    refine List.map_congr_left fun n hn => memRead_eq_lane hm fun k hk => ?_
    have hblock : B * (n + 1) ≤ B * L := Nat.mul_le_mul_left B (List.mem_range.1 hn)
    rw [lane_eight_load m b addr (by rw [Nat.mul_succ] at hblock; omega), Nat.mul_div_cancel_left B (by decide),
      Nat.mul_comm n B, Nat.add_assoc]
  rw [hlanes, ofLanes_lanes m (by omega) hd]

/-- The four full loads under a direct mapping are one function (R78). -/
theorem execLoadLanes_eq_eight {s : State} (hm : s.params.laneMapping ≠ .beHybrid) (d mem : Ident) (addr : Nat) {B L : Nat}
    (hBL : B * L = 16) : execLoadLanes s d mem addr (8 * B) L = execLoadLanes s d mem addr 8 16 := by
  unfold execLoadLanes
  simp only [ofLanes_loadLanes hm _ _ hBL, lanes_bytes hBL]

/-! ### The statement -/

@[simp] theorem State.byte_advance (s : State) (m : Ident) (a : Nat) : s.advance.byte m a = s.byte m a := rfl

/-- After a full store under a direct mapping that does not fault, the bytes of the range are the 8-bit lanes of the vector
stored. -/
theorem byte_of_fullStore {s t : State} (hm : s.params.laneMapping ≠ .beHybrid) (hs : s.wf = true) {mem : Ident}
    {addr B L : Nat} {data : VOperand} {v : V128} (hv : Holds kV128 s data v) (hBL : B * L = 16)
    (h : execStoreLanes s mem addr data (8 * B) L = .next t) (ht : t.fault = none) {j : Nat} (hj : j < 16) :
    t.byte mem (addr + j) = some (lane s.params.laneMapping 8 v j) := by
  obtain ⟨b, w, hb, hw, hr, rfl⟩ := execStoreLanes_next h ht
  obtain rfl : v = w := Got.val.inj ((read_of_holds kV128_lawful hv).symm.trans hw)
  rw [lanes_bytes hBL] at hr
  have hbw : b.wf = true := Memory.wf_find ((State.wf_iff s).1 hs).2 hb
  have hlen : (lanes s.params.laneMapping 8 v).length = 16 := by simp
  have hstored : (s.setBuffer mem (b.setBytes addr (lanes s.params.laneMapping 8 v))).byte mem (addr + j) =
      some ((b.setBytes addr (lanes s.params.laneMapping 8 v)).byte (addr + j)) := by
    rw [State.byte_setBuffer_same hb, if_pos (by rw [Buffer.len_setBytes]; omega)]
  rw [storeLanes_take_eq_setBytes hm b addr v hBL, State.byte_advance, hstored,
    Buffer.byte_setBytes_same hbw _ (by omega) (by omega), lanes_getElem]

/-- Settles O57: under a direct mapping the bytes of a lane in memory are its 8-bit lanes, so every full load reads and every
full store writes the 16 8-bit lanes in order. -/
theorem directMappingWidths : Obligations.DirectMappingWidths := by
  intro s hm
  refine ⟨fun d mem addr => ⟨?_, ?_, ?_⟩, fun mem addr data => ⟨?_, ?_, ?_⟩,
    fun mem addr data v t hs hv h ht j hj => ?_⟩
  · exact execLoadLanes_eq_eight hm d mem addr (B := 2) (L := 8) rfl
  · exact execLoadLanes_eq_eight hm d mem addr (B := 4) (L := 4) rfl
  · exact execLoadLanes_eq_eight hm d mem addr (B := 8) (L := 2) rfl
  · exact execStoreLanes_eq_eight hm mem addr data (B := 2) (L := 8) rfl
  · exact execStoreLanes_eq_eight hm mem addr data (B := 4) (L := 4) rfl
  · exact execStoreLanes_eq_eight hm mem addr data (B := 8) (L := 2) rfl
  · exact byte_of_fullStore hm hs hv (B := 8) (L := 2) rfl h ht hj

end Sys2Proof.Machine
end

section
/-! Text that is read back (30_encoding.md R107, R109): the words of statement text, the lexer on the tokens the encoder
writes, and the parser on the tokens of a statement. -/

namespace Sys2Proof

open Machine

/-! ### Words -/

/-- A text that the lexer can read as one word. -/
def IsWord (w : Text) : Prop := w ≠ [] ∧ ∀ c ∈ w, isWordChar c = true

theorem isWordChar_of_isNameChar {c : Char} (h : isNameChar c = true) : isWordChar c = true := by
  simp [isWordChar, h]

theorem isWord_of_valid {x : Ident} (h : x.valid = true) : IsWord x := by
  cases x with
  | nil => cases h
  | cons c r =>
    simp only [Ident.valid, Bool.and_eq_true, List.all_eq_true] at h
    obtain ⟨⟨⟨hc, hr⟩, -⟩, -⟩ := h
    refine ⟨by simp, fun d hd => isWordChar_of_isNameChar ?_⟩
    rcases List.mem_cons.1 hd with rfl | hd
    · simp [isNameChar, hc]
    · exact hr d hd

theorem isWordChar_of_digitValue {c : Char} {k : Nat} (h : digitValue c = some k) : isWordChar c = true := by
  simp only [isWordChar, isNameChar, isLetter, between, Bool.or_eq_true, Bool.and_eq_true, Nat.ble_eq]
  simp only [digitValue, Char.reduceToNat] at h ⊢
  split_ifs at h <;> omega

theorem isWordChar_of_readDigits {base n m : Nat} {w : Text} (h : readDigits base n w = some m) :
    ∀ c ∈ w, isWordChar c = true := by
  induction w generalizing n with
  | nil => simp
  | cons c r ih =>
    simp only [readDigits] at h
    split at h
    next k hk =>
      split_ifs at h
      exact List.forall_mem_cons.2 ⟨isWordChar_of_digitValue hk, ih h⟩
    next => cases h

theorem isWord_of_readDecimal {w : Text} {n : Nat} (h : readDecimal w = some n) : IsWord w := by
  unfold readDecimal at h
  split_ifs at h with hw
  exact ⟨hw, isWordChar_of_readDigits h⟩

theorem isWord_of_readNumeral {w : Text} {n : Nat} (h : readNumeral w = some n) : IsWord w := by
  unfold readNumeral at h
  split at h
  next r =>
    split_ifs at h
    have hr := isWordChar_of_readDigits h
    exact ⟨by simp, List.forall_mem_cons.2 ⟨by decide, List.forall_mem_cons.2 ⟨by decide, hr⟩⟩⟩
  next => exact isWord_of_readDecimal h

/-- A fixed spelling is a word, by evaluation. -/
theorem isWord_of_all {w : Text} (h : (!w.isEmpty && w.all isWordChar) = true) : IsWord w := by
  simpa [IsWord] using h

theorem isWord_of_spellsBool {b : Bool} {w : Text} (h : SpellsBool b w) : IsWord w := by
  cases b <;> rcases h with rfl | rfl <;> exact isWord_of_all (by decide +kernel)

theorem Ty.isWord_name (τ : Ty) : IsWord τ.name := isWord_of_all (by cases τ <;> decide +kernel)

theorem RoundingMode.isWord_name (rm : RoundingMode) : IsWord rm.name :=
  isWord_of_all (by cases rm <;> decide +kernel)

theorem Prefix.isWord_text (p : Prefix) : IsWord p.text := isWord_of_all (by cases p <;> decide +kernel)

theorem OpName.isWord_text (o : OpName) : IsWord o.text := isWord_of_all (by cases o <;> decide +kernel)

theorem Mnemonic.isWord_text (m : Mnemonic) : IsWord m.text := by
  refine ⟨by simp [Mnemonic.text], fun c hc => ?_⟩
  rcases List.mem_append.1 hc with hp | ho
  · exact m.pre.isWord_text.2 c hp
  · rcases List.mem_cons.1 ho with rfl | ho
    · decide
    · exact m.op.isWord_text.2 c ho

/-- The words of an element. -/
def Elem.words : Elem → List Text
  | .word w => [w]
  | .typed p τ => [p, τ]

/-- The words of an operand as written. -/
def RawArg.words : RawArg → List Text
  | .elem e => e.words
  | .list es sfx => es.flatMap Elem.words ++ sfx.toList

/-- An operand that stands in text as it is: its words are words, and a list with a suffix is not empty. -/
structure RawArg.Writable (a : RawArg) : Prop where
  words : ∀ w ∈ a.words, IsWord w
  filled : ∀ sfx, a ≠ .list [] (some sfx)

/-- A statement that stands in text as it is, in one of the three forms. -/
structure RawStatement.Writable (st : RawStatement) : Prop where
  dests : ∀ d ∈ st.dests, IsWord d
  few : st.dests.length ≤ 2
  mnemonic : IsWord st.mnemonic
  args : ∀ a ∈ st.args, a.Writable

/-! ### The lexer -/

/-- A token of fixed spelling. -/
def Token.isMark : Token → Bool
  | .word _ => false
  | .lpar | .rpar | .lbr | .rbr | .comma | .eq | .colon => true

/-- The tokens are read back from their texts written one after the other. -/
def Lexes (ts : List Token) : Prop := lex (ts.flatMap Token.text) = some ts

theorem lexFrom_append {w t u : Text} {ts : List Token} (hw : ∀ c ∈ w, isWordChar c = true)
    (h : lexFrom t = some (u, ts)) : lexFrom (w ++ t) = some (w ++ u, ts) := by
  induction w with
  | nil => exact h
  | cons c r ih =>
    obtain ⟨hc, hr⟩ := List.forall_mem_cons.1 hw
    simp [lexFrom, ih hr, hc]

/-- A mark ends the word before it, so that no word is open in front of it. -/
theorem lexFrom_mark {k : Token} {t : Text} {ts : List Token} (hk : k.isMark = true) (h : lex t = some ts) :
    lexFrom (k.text ++ t) = some ([], k :: ts) := by
  unfold lex at h
  split at h
  next u us hu =>
    cases h
    cases k with
    | word w => cases hk
    | _ => simp [Token.text, lexFrom, hu, isWordChar, isNameChar, isLetter, between, markToken, pushWord]
  next => cases h

theorem Lexes.nil : Lexes [] := rfl

theorem Lexes.mark {k : Token} {ts : List Token} (hk : k.isMark = true) (h : Lexes ts) : Lexes (k :: ts) := by
  simp [Lexes, lex, lexFrom_mark hk h, pushWord]

theorem Lexes.word {w : Text} {k : Token} {ts : List Token} (hw : IsWord w) (hk : k.isMark = true) (h : Lexes ts) :
    Lexes (.word w :: k :: ts) := by
  obtain ⟨hne, hc⟩ := hw
  have hlex := lexFrom_append hc (lexFrom_mark hk h)
  change lex (w ++ (k.text ++ ts.flatMap Token.text)) = _
  simp [lex, hlex, pushWord, hne]

/-- Tokens that are read back in front of any mark. -/
def Piece (p : List Token) : Prop := ∀ k ts, k.isMark = true → Lexes ts → Lexes (p ++ k :: ts)

theorem piece_word {w : Text} (hw : IsWord w) : Piece [.word w] := fun _ _ hk h => h.word hw hk

theorem Elem.piece {e : Elem} (h : ∀ w ∈ e.words, IsWord w) : Piece e.tokens := by
  cases e with
  | word w => exact piece_word (h w (by simp [Elem.words]))
  | typed p τ =>
    intro k ts hk hts
    exact (hts.word (h τ (by simp [Elem.words])) hk).word (h p (by simp [Elem.words])) rfl

theorem Piece.append {p q : List Token} {k : Token} (hp : Piece p) (hk : k.isMark = true) (hq : Piece q) :
    Piece (p ++ k :: q) := by
  intro k' ts hk' hts
  simpa using hp k (q ++ k' :: ts) hk (hq k' ts hk' hts)

theorem piece_commas : ∀ {ps : List (List Token)}, (∀ p ∈ ps, Piece p) → Piece (commas ps)
  | [], _ => fun _ _ hk hts => hts.mark hk
  | [p], h => h p (by simp)
  | p :: q :: r, h => (h p (by simp)).append rfl (piece_commas fun x hx => h x (by simp [hx]))

theorem RawArg.tokens_list (es : List Elem) (sfx : Option Text) :
    (RawArg.list es sfx).tokens = .lbr :: commas (es.map Elem.tokens) ++ .rbr :: sfx.toList.map .word := by
  cases sfx <;> rfl

theorem RawArg.Writable.piece {a : RawArg} (h : a.Writable) : Piece a.tokens := by
  cases a with
  | elem e => exact Elem.piece h.words
  | list es sfx =>
    intro k ts hk hts
    have hes : Piece (commas (es.map Elem.tokens)) := by
      refine piece_commas fun p hp => ?_
      obtain ⟨e, he, rfl⟩ := List.mem_map.1 hp
      exact Elem.piece fun w hw => h.words w (by simpa [RawArg.words] using .inl ⟨e, he, hw⟩)
    have hsfx : Lexes (sfx.toList.map .word ++ k :: ts) := by
      cases sfx with
      | none => exact hts.mark hk
      | some w => exact hts.word (h.words w (by simp [RawArg.words])) hk
    simpa [RawArg.tokens_list] using (hes .rbr _ rfl hsfx).mark (k := .lbr) rfl

theorem lexes_destTokens {ds : List Ident} {ts : List Token} (hd : ∀ d ∈ ds, IsWord d) (h : Lexes ts) :
    Lexes (destTokens ds ++ ts) := by
  match ds with
  | [] => exact h
  | [d] => exact h.word (hd d (by simp)) rfl
  | d :: e :: r =>
    have hds : Piece (commas ((d :: e :: r).map fun x => [.word x])) := by
      refine piece_commas fun p hp => ?_
      obtain ⟨x, hx, rfl⟩ := List.mem_map.1 hp
      exact piece_word (hd x hx)
    simpa [destTokens] using (hds .rpar _ rfl (h.mark (k := .eq) rfl)).mark (k := .lpar) rfl

theorem RawStatement.Writable.lexes {st : RawStatement} (h : st.Writable) : Lexes st.tokens := by
  have hargs : Piece (commas (st.args.map RawArg.tokens)) := by
    refine piece_commas fun p hp => ?_
    obtain ⟨a, ha, rfl⟩ := List.mem_map.1 hp
    exact (h.args a ha).piece
  simpa [RawStatement.tokens] using lexes_destTokens h.dests ((hargs .rpar [] rfl .nil).word h.mnemonic (k := .lpar) rfl)

/-! ### The parser -/

@[simp] theorem Elem.tokens_word (w : Text) : (Elem.word w).tokens = [.word w] := rfl

@[simp] theorem Elem.tokens_typed (p τ : Text) : (Elem.typed p τ).tokens = [.word p, .colon, .word τ] := rfl

theorem Elem.tokens_eq_cons (e : Elem) : ∃ w r, e.tokens = .word w :: r := by
  cases e with
  | word w => exact ⟨w, [], rfl⟩
  | typed p τ => exact ⟨p, [.colon, .word τ], rfl⟩

theorem commas_cons_append (p : List Token) (ps : List (List Token)) : ∃ r, commas (p :: ps) = p ++ r := by
  cases ps with
  | nil => exact ⟨[], (List.append_nil p).symm⟩
  | cons q ps => exact ⟨.comma :: commas (q :: ps), rfl⟩

theorem parseElems_commas {es : List Elem} (hne : es ≠ []) (r : List Token) :
    parseElems (commas (es.map Elem.tokens) ++ .rbr :: r) = some (es, r) := by
  match es with
  | [e] => cases e <;> simp [commas, Elem.tokens, parseElems]
  | e :: e' :: es =>
    have ih := parseElems_commas (es := e' :: es) (by simp) r
    simp only [List.map_cons] at ih
    cases e <;> simp [commas, parseElems, ih]

/-- An operand is read up to the comma or the closing parenthesis after it. -/
theorem RawArg.Writable.parseArg {a : RawArg} (h : a.Writable) {k : Token} (hk : k = .comma ∨ k = .rpar)
    (r : List Token) : parseArg (a.tokens ++ k :: r) = some (a, k :: r) := by
  match a with
  | .elem (.word w) => rcases hk with rfl | rfl <;> rfl
  | .elem (.typed p τ) => rfl
  | .list [] none => rfl
  | .list [] (some w) => exact absurd rfl (h.filled w)
  | .list (e :: es) sfx =>
    have helems := parseElems_commas (es := e :: es) (by simp)
      (sfx.toList.map .word ++ k :: r)
    obtain ⟨w, u, hw⟩ := e.tokens_eq_cons
    obtain ⟨v, hv⟩ := commas_cons_append e.tokens (es.map Elem.tokens)
    rw [List.map_cons, hv, hw] at helems
    rw [RawArg.tokens_list, List.map_cons, hv, hw]
    simp only [List.cons_append, List.append_assoc] at helems ⊢
    simp only [Sys2Proof.parseArg, helems]
    cases sfx <;> rcases hk with rfl | rfl <;> rfl

theorem parseArgs_commas {as : List RawArg} (hne : as ≠ []) (h : ∀ a ∈ as, a.Writable) {n : Nat} (hn : as.length ≤ n) :
    parseArgs n (commas (as.map RawArg.tokens) ++ [.rpar]) = some as := by
  match as, n with
  | [a], n + 1 => simp [commas, parseArgs, (h a (by simp)).parseArg]
  | a :: b :: as, n + 1 =>
    have ih := parseArgs_commas (as := b :: as) (n := n) (by simp) (fun x hx => h x (by simp [hx])) (by simpa using hn)
    simp only [List.map_cons] at ih
    simp [commas, parseArgs, (h a (by simp)).parseArg, ih]

theorem length_le_length_commas : ∀ ps : List (List Token), ps.length ≤ (commas ps).length + 1
  | [] => by simp
  | [_] => by simp
  | p :: q :: r => by
    have ih := length_le_length_commas (q :: r)
    simp only [commas, List.length_append, List.length_cons] at ih ⊢
    omega

theorem parseCall_commas {as : List RawArg} (h : ∀ a ∈ as, a.Writable) (ds : List Ident) (m : Text) :
    parseCall ds m (commas (as.map RawArg.tokens) ++ [.rpar]) = some ⟨ds, m, as⟩ := by
  by_cases hne : as = []
  · subst hne; rfl
  · have hlen := length_le_length_commas (as.map RawArg.tokens)
    have hargs := parseArgs_commas hne h (n := (commas (as.map RawArg.tokens) ++ [Token.rpar]).length) (by simpa using hlen)
    unfold parseCall
    split_ifs with hr
    · rw [hr] at hargs; cases hargs
    · rw [hargs]

theorem RawStatement.Writable.parseStatement {st : RawStatement} (h : st.Writable) :
    parseStatement st.tokens = some st := by
  obtain ⟨ds, m, as⟩ := st
  have hcall := fun ds => parseCall_commas h.args ds m
  have hfew := h.few
  match ds, hfew with
  | [], _ => exact hcall []
  | [d], _ => exact hcall [d]
  | [d, e], _ => exact hcall [d, e]

/-- A statement as written is read back from its text. -/
theorem RawStatement.Writable.parse_text {st : RawStatement} (h : st.Writable) :
    (lex (st.tokens.flatMap Token.text)).bind Sys2Proof.parseStatement = some st := by
  rw [show lex (st.tokens.flatMap Token.text) = some st.tokens from h.lexes]
  exact h.parseStatement

end Sys2Proof
end

section
/-! What a row of the table answers (30_encoding.md R103, R107, R111): the instruction named by the mnemonic of the row, with
the destinations and operands that are written. Round trip, well-formedness and selection of the operation follow. -/

namespace Sys2Proof

open Machine

/-! ### Answers of a row -/

/-- The instruction is the one that the mnemonic, the destinations and the operands as written stand for. -/
structure StandsFor (m : Mnemonic) (ds : List Ident) (as : List RawArg) (i : Instr) : Prop where
  mnemonic : i.statement.mnemonic = m
  dests : i.statement.dests.map Prod.fst = ds
  args : List.Forall₂ SpellsArg i.statement.args as
  distinct : distinctNames ds = true
  few : ds.length ≤ 2

/-- Every instruction the row answers is the one that its operands stand for under the mnemonic. -/
def Answers (m : Mnemonic) (row : Row) : Prop := ∀ ds as i, row ds as = .ok i → StandsFor m ds as i

theorem form1_answers {α : Type} {ra : RawArg → Option α} {arg : α → Arg} {mk : Ident → α → Instr} {m : Mnemonic}
    {τ : Ty} (ha : ∀ {r x}, ra r = some x ↔ SpellsArg (arg x) r)
    (hs : ∀ d x, (mk d x).statement = ⟨m, [(d, τ)], [arg x]⟩) : Answers m (form1 ra mk) := by
  intro ds as i h
  unfold form1 at h
  split at h
  next d a =>
    cases hx : ra a with
    | none => simp [hx, orIll] at h
    | some x =>
      obtain rfl : mk d x = i := by simpa [hx, orIll] using h
      constructor <;> simp [hs, ha.1 hx, distinctNames]
  next => cases h

theorem form2_answers {α β : Type} {ra : RawArg → Option α} {rb : RawArg → Option β} {arg : α → Arg} {brg : β → Arg}
    {mk : Ident → α → β → Instr} {m : Mnemonic} {τ : Ty} (ha : ∀ {r x}, ra r = some x ↔ SpellsArg (arg x) r)
    (hb : ∀ {r y}, rb r = some y ↔ SpellsArg (brg y) r)
    (hs : ∀ d x y, (mk d x y).statement = ⟨m, [(d, τ)], [arg x, brg y]⟩) : Answers m (form2 ra rb mk) := by
  intro ds as i h
  unfold form2 at h
  split at h
  next d a b =>
    split at h
    next x y hx hy =>
      cases h
      constructor <;> simp [hs, ha.1 hx, hb.1 hy, distinctNames]
    next => cases h
  next => cases h

theorem form3_answers {α β γ : Type} {ra : RawArg → Option α} {rb : RawArg → Option β} {rc : RawArg → Option γ}
    {arg : α → Arg} {brg : β → Arg} {crg : γ → Arg} {mk : Ident → α → β → γ → Instr} {m : Mnemonic} {τ : Ty}
    (ha : ∀ {r x}, ra r = some x ↔ SpellsArg (arg x) r) (hb : ∀ {r y}, rb r = some y ↔ SpellsArg (brg y) r)
    (hc : ∀ {r z}, rc r = some z ↔ SpellsArg (crg z) r)
    (hs : ∀ d x y z, (mk d x y z).statement = ⟨m, [(d, τ)], [arg x, brg y, crg z]⟩) : Answers m (form3 ra rb rc mk) := by
  intro ds as i h
  unfold form3 at h
  split at h
  next d a b c =>
    split at h
    next x y z hx hy hz =>
      cases h
      constructor <;> simp [hs, ha.1 hx, hb.1 hy, hc.1 hz, distinctNames]
    next => cases h
  next => cases h

theorem formStore_answers {mk : Ident → Nat → VOperand → Instr} {m : Mnemonic}
    (hs : ∀ x y z, (mk x y z).statement = ⟨m, [], [.buffer x, .offset y, .vector z]⟩) : Answers m (formStore mk) := by
  intro ds as i h
  unfold formStore at h
  split at h
  next a b c =>
    split at h
    next x y z hx hy hz =>
      cases h
      constructor <;> simp [hs, rdName_eq_some.1 hx, rdOffset_eq_some.1 hy, rdVector_eq_some.1 hz, distinctNames]
    next => cases h
  next => cases h

theorem formConvert_answers {mk : Ident → Ident → VOperand → Instr} {m : Mnemonic} {τ σ : Ty}
    (hs : ∀ d e x, (mk d e x).statement = ⟨m, [(d, τ), (e, σ)], [.vector x]⟩) : Answers m (formConvert mk) := by
  intro ds as i h
  unfold formConvert at h
  split at h
  next d e a =>
    split at h
    next x hx =>
      split_ifs at h with hde
      cases h
      constructor <;> simp [hs, rdVector_eq_some.1 hx, distinctNames, hde]
    next => cases h
  next => cases h

/-! ### The rows of the table -/

theorem rowsConstruct_answer : ∀ e ∈ rowsConstruct, Answers e.1 e.2 := by
  simp only [rowsConstruct, List.forall_mem_cons, List.not_mem_nil, false_imp_iff, implies_true, and_true]
  and_intros
  iterate 4 exact form1_answers rdBooleans_eq_some fun _ _ => rfl
  iterate 6 exact form1_answers rdScalars_eq_some fun _ _ => rfl
  iterate 4 exact form1_answers rdBoolean_eq_some fun _ _ => rfl
  iterate 6 exact form1_answers rdScalar_eq_some fun _ _ => rfl

theorem rowsAccess_answer : ∀ e ∈ rowsAccess, Answers e.1 e.2 := by
  simp only [rowsAccess, List.forall_mem_cons, List.not_mem_nil, false_imp_iff, implies_true, and_true]
  and_intros
  iterate 4 exact form2_answers rdMask_eq_some rdIndex_eq_some fun _ _ _ => rfl
  iterate 6 exact form2_answers rdVector_eq_some rdIndex_eq_some fun _ _ _ => rfl
  iterate 4 exact form3_answers rdMask_eq_some rdIndex_eq_some rdBoolean_eq_some fun _ _ _ _ => rfl
  iterate 6 exact form3_answers rdVector_eq_some rdIndex_eq_some rdScalar_eq_some fun _ _ _ _ => rfl
  iterate 4 exact form3_answers rdMask_eq_some rdVector_eq_some rdVector_eq_some fun _ _ _ _ => rfl
  iterate 4 exact form2_answers rdVector_eq_some rdIndices_eq_some fun _ _ _ => rfl
  iterate 4 exact form3_answers rdVector_eq_some rdVector_eq_some rdIndices_eq_some fun _ _ _ _ => rfl

theorem rowsArith_answer : ∀ e ∈ rowsArith, Answers e.1 e.2 := by
  simp only [rowsArith, List.forall_mem_cons, List.not_mem_nil, false_imp_iff, implies_true, and_true]
  and_intros
  iterate 12 exact form2_answers rdVector_eq_some rdVector_eq_some fun _ _ _ => rfl
  iterate 4 exact form1_answers rdVector_eq_some fun _ _ => rfl
  iterate 8 exact form2_answers rdVector_eq_some rdVector_eq_some fun _ _ _ => rfl
  iterate 12 exact form2_answers rdVector_eq_some rdScalar_eq_some fun _ _ _ => rfl

theorem rowsLogic_answer : ∀ e ∈ rowsLogic, Answers e.1 e.2 := by
  simp only [rowsLogic, List.forall_mem_cons, List.not_mem_nil, false_imp_iff, implies_true, and_true]
  and_intros
  iterate 12 exact form2_answers rdMask_eq_some rdMask_eq_some fun _ _ _ => rfl
  iterate 4 exact form1_answers rdMask_eq_some fun _ _ => rfl
  iterate 3 exact form2_answers rdVector_eq_some rdVector_eq_some fun _ _ _ => rfl
  iterate 1 exact form1_answers rdVector_eq_some fun _ _ => rfl
  iterate 8 exact form1_answers rdMask_eq_some fun _ _ => rfl

theorem rowsCompare_answer : ∀ e ∈ rowsCompare, Answers e.1 e.2 := by
  simp only [rowsCompare, List.forall_mem_cons, List.not_mem_nil, false_imp_iff, implies_true, and_true]
  and_intros
  all_goals exact form2_answers rdVector_eq_some rdVector_eq_some fun _ _ _ => rfl

theorem rowsMemory_answer : ∀ e ∈ rowsMemory, Answers e.1 e.2 := by
  simp only [rowsMemory, List.forall_mem_cons, List.not_mem_nil, false_imp_iff, implies_true, and_true]
  and_intros
  iterate 4 exact form2_answers rdName_eq_some rdOffset_eq_some fun _ _ _ => rfl
  iterate 4 exact formStore_answers fun _ _ _ => rfl
  iterate 3 exact form2_answers rdName_eq_some rdOffset_eq_some fun _ _ _ => rfl
  iterate 3 exact formStore_answers fun _ _ _ => rfl

theorem rowsSign_answer : ∀ e ∈ rowsSign, Answers e.1 e.2 := by
  simp only [rowsSign, List.forall_mem_cons, List.not_mem_nil, false_imp_iff, implies_true, and_true]
  and_intros
  iterate 4 exact form1_answers rdVector_eq_some fun _ _ => rfl
  iterate 8 exact form2_answers rdVector_eq_some rdVector_eq_some fun _ _ _ => rfl

theorem rowsFloat_answer : ∀ e ∈ rowsFloat, Answers e.1 e.2 := by
  simp only [rowsFloat, List.forall_mem_cons, List.not_mem_nil, false_imp_iff, implies_true, and_true]
  and_intros
  iterate 8 exact form3_answers rdVector_eq_some rdVector_eq_some rdRounding_eq_some fun _ _ _ _ => rfl
  iterate 2 exact form2_answers rdVector_eq_some rdRounding_eq_some fun _ _ _ => rfl
  iterate 4 exact form1_answers rdVector_eq_some fun _ _ => rfl

theorem rowsConvert_answer : ∀ e ∈ rowsConvert, Answers e.1 e.2 := by
  simp only [rowsConvert, List.forall_mem_cons, List.not_mem_nil, false_imp_iff, implies_true, and_true]
  and_intros
  iterate 4 exact form2_answers rdVector_eq_some rdRounding_eq_some fun _ _ _ => rfl
  iterate 4 exact formConvert_answers fun _ _ _ => rfl

theorem rows_answer {m : Mnemonic} {row : Row} (h : (m, row) ∈ rows) : Answers m row := by
  simp only [rows, List.mem_append] at h
  obtain ((((((((h | h) | h) | h) | h) | h) | h) | h) | h) := h
  · exact rowsConstruct_answer _ h
  · exact rowsAccess_answer _ h
  · exact rowsArith_answer _ h
  · exact rowsLogic_answer _ h
  · exact rowsCompare_answer _ h
  · exact rowsMemory_answer _ h
  · exact rowsSign_answer _ h
  · exact rowsFloat_answer _ h
  · exact rowsConvert_answer _ h

theorem findRow_mem {m : Mnemonic} {row : Row} {l : List (Mnemonic × Row)} (h : findRow m l = some row) :
    (m, row) ∈ l := by
  induction l with
  | nil => cases h
  | cons e r ih =>
    obtain ⟨k, row'⟩ := e
    simp only [findRow] at h
    split_ifs at h with hk
    · cases h; subst hk; exact .head _
    · exact .tail _ (ih h)

/-! ### Mnemonics -/

theorem readPrefix_eq_some {w : Text} {p : Prefix} (h : readPrefix w = some p) : w = p.text := by
  have hp := List.find?_some h
  exact (beq_iff_eq.1 hp).symm

theorem readOp_eq_some {w : Text} {o : OpName} (h : readOp w = some o) : w = o.text := by
  have ho := List.find?_some h
  exact (beq_iff_eq.1 ho).symm

/-- A word read as a mnemonic is its spelling. -/
theorem readMnemonic_eq_some {w : Text} {m : Mnemonic} (h : readMnemonic w = some m) : w = m.text := by
  unfold readMnemonic at h
  split at h
  next p o hp ho =>
    cases h
    have hpre := readPrefix_eq_some hp
    have hop := readOp_eq_some ho
    cases hd : w.dropWhile (· != '.') with
    | nil => rw [hd] at hop; exact absurd hop.symm o.isWord_text.1
    | cons c r =>
      have hc : c = '.' := by simpa [hd] using List.head_dropWhile_not (· != '.') (l := w) (by simp [hd])
      rw [hd] at hop
      calc w = w.takeWhile (· != '.') ++ w.dropWhile (· != '.') := List.takeWhile_append_dropWhile.symm
        _ = p.text ++ '.' :: o.text := by rw [hpre, hd, hc, ← hop]; rfl
  next => cases h

/-! ### Statements -/

/-- A statement that is assembled has identifiers for destinations and stands for its instruction under the mnemonic in it. -/
theorem assemble_eq_ok {st : RawStatement} {i : Instr} (h : assemble st = .ok i) :
    st.dests.all Ident.valid = true ∧ ∃ m, st.mnemonic = m.text ∧ StandsFor m st.dests st.args i := by
  unfold assemble at h
  split_ifs at h with hd
  split at h
  next => cases h
  next row hrow =>
    obtain ⟨m, hm, hf⟩ := Option.bind_eq_some_iff.1 hrow
    exact ⟨by simpa using hd, m, readMnemonic_eq_some hm, rows_answer (findRow_mem hf) _ _ _ h⟩

theorem decode_eq_ok {t : Text} {i : Instr} :
    decode t = .ok i ↔ ∃ st, (lex t).bind parseStatement = some st ∧ assemble st = .ok i := by
  unfold decode
  split
  next st hst => simp [hst]
  next hst => simp [hst]

/-! ### Spelled operands -/

theorem forall_left_of_forall₂ {α β : Type} {R : α → β → Prop} {P : α → Prop} {l : List α} {u : List β}
    (h : List.Forall₂ R l u) (hP : ∀ a b, R a b → P a) : ∀ a ∈ l, P a :=
  ((List.forall₂_and_left l u).1 (h.imp fun a b hab => ⟨hP a b hab, hab⟩)).1

theorem forall_right_of_forall₂ {α β : Type} {R : α → β → Prop} {P : β → Prop} {l : List α} {u : List β}
    (h : List.Forall₂ R l u) (hP : ∀ a b, R a b → P b) : ∀ b ∈ u, P b :=
  forall_left_of_forall₂ h.flip fun b a hab => hP a b hab

/-- The names in an operand that is spelled are identifiers. -/
theorem wellFormed_of_spellsArg {a : Arg} {r : RawArg} (h : SpellsArg a r) : a.wellFormed = true := by
  match a with
  | .vector (.slot x) | .mask _ (.slot x) | .boolean (.slot x) | .buffer x => exact h.2
  | .vector (.lit _) | .mask _ (.lit _) | .boolean (.lit _) | .index _ | .indices _ | .rounding _ | .offset _ => rfl
  | .scalar τ o =>
    obtain ⟨e, -, he⟩ := h
    cases o with
    | slot x => exact he.2
    | lit p => rfl
  | .scalars τ os =>
    obtain ⟨es, -, hes⟩ := h
    refine List.all_eq_true.2 (forall_left_of_forall₂ hes fun o e ho => ?_)
    cases o with
    | slot x => exact ho.2
    | lit p => rfl
  | .booleans os =>
    obtain ⟨es, -, hes⟩ := h
    refine List.all_eq_true.2 (forall_left_of_forall₂ hes fun o e ho => ?_)
    cases o with
    | slot x => exact ho.2
    | lit b => rfl

theorem writable_word {w : Text} (h : IsWord w) : (RawArg.elem (.word w)).Writable :=
  ⟨by simpa [RawArg.words, Elem.words] using h, by simp⟩

theorem writable_list {es : List Elem} (h : ∀ e ∈ es, ∀ w ∈ e.words, IsWord w) : (RawArg.list es none).Writable := by
  refine ⟨fun w hw => ?_, by simp⟩
  obtain ⟨e, he, hwe⟩ : ∃ e ∈ es, w ∈ e.words := by simpa [RawArg.words] using hw
  exact h e he w hwe

theorem writable_words {ws : List Text} (h : ∀ w ∈ ws, IsWord w) : (RawArg.list (ws.map .word) none).Writable :=
  writable_list (by simpa [Elem.words] using h)

/-- Words that are all read as numbers are words. -/
theorem isWord_of_map_eq {f : Text → Option Nat} (hf : ∀ {w n}, f w = some n → IsWord w) {ws : List Text} {ns : List Nat}
    (h : ws.map f = ns.map some) : ∀ w ∈ ws, IsWord w := by
  intro w hw
  have hm : f w ∈ ns.map some := h ▸ List.mem_map_of_mem hw
  obtain ⟨n, -, hn⟩ := List.mem_map.1 hm
  exact hf hn.symm

theorem writable_of_spellsLanes {W n : Nat} {ps : Lanes (BitVec W) n} {sfx : Text} {r : RawArg} (hn : 0 < n)
    (hsfx : IsWord sfx) (h : SpellsLanes ps sfx r) : r.Writable := by
  obtain ⟨ws, rfl, hws⟩ := h
  have hlen : ws.length = n := by simpa [ps.size] using congrArg List.length hws
  refine ⟨fun w hw => ?_, fun s hs => ?_⟩
  · rcases (by simpa [RawArg.words, Elem.words] using hw : w ∈ ws ∨ w = sfx) with hw | rfl
    · exact isWord_of_map_eq isWord_of_readNumeral hws w hw
    · exact hsfx
  · obtain ⟨rfl, -⟩ : ws = [] ∧ sfx = s := by simpa using hs
    simp at hlen; omega

theorem isWord_of_spellsScalar {W : Nat} {τ : Ty} {o : Operand (BitVec W)} {e : Elem} (h : SpellsScalar τ o e) :
    ∀ w ∈ e.words, IsWord w := by
  cases o with
  | slot x =>
    obtain ⟨rfl, hx⟩ := h
    simpa [Elem.words] using isWord_of_valid hx
  | lit p =>
    obtain ⟨t, ht, rfl | rfl⟩ := h
    · simpa [Elem.words] using ⟨isWord_of_readNumeral ht, τ.isWord_name⟩
    · simpa [Elem.words] using isWord_of_readNumeral ht

theorem isWord_of_spellsBooleanElem {o : Operand Bool} {e : Elem} (h : SpellsBooleanElem o e) :
    ∀ w ∈ e.words, IsWord w := by
  cases o with
  | slot x =>
    obtain ⟨rfl, hx⟩ := h
    simp only [Ident.validElement, Bool.and_eq_true] at hx
    simpa [Elem.words] using isWord_of_valid hx.1.1
  | lit b =>
    obtain ⟨w, rfl, hw⟩ := h
    simpa [Elem.words] using isWord_of_spellsBool hw

/-- What spells an operand stands in text as it is. -/
theorem writable_of_spellsArg {a : Arg} {r : RawArg} (h : SpellsArg a r) : r.Writable := by
  match a with
  | .vector (.slot x) | .mask _ (.slot x) | .boolean (.slot x) | .buffer x =>
    obtain ⟨rfl, hx⟩ := h
    exact writable_word (isWord_of_valid hx)
  | .vector (.lit (.w8 ps)) | .vector (.lit (.w16 ps)) | .vector (.lit (.w32 ps)) | .vector (.lit (.w64 ps)) =>
    exact writable_of_spellsLanes (by decide) (isWord_of_all (by decide +kernel)) h
  | .mask _ (.lit v) =>
    obtain ⟨ws, rfl, hws⟩ := h
    exact writable_words (forall_right_of_forall₂ hws fun _ _ => isWord_of_spellsBool)
  | .scalar τ o =>
    obtain ⟨e, rfl, he⟩ := h
    exact ⟨isWord_of_spellsScalar he, by simp⟩
  | .boolean (.lit b) =>
    cases h
    exact writable_word (isWord_of_spellsBool (.inr rfl))
  | .scalars τ os =>
    obtain ⟨es, rfl, hes⟩ := h
    exact writable_list (forall_right_of_forall₂ hes fun _ _ => isWord_of_spellsScalar)
  | .booleans os =>
    obtain ⟨es, rfl, hes⟩ := h
    exact writable_list (forall_right_of_forall₂ hes fun _ _ => isWord_of_spellsBooleanElem)
  | .index i =>
    obtain ⟨w, rfl, hw⟩ := h
    exact writable_word (isWord_of_readDecimal hw)
  | .indices is =>
    obtain ⟨ws, rfl, hws⟩ := h
    exact writable_words (isWord_of_map_eq isWord_of_readDecimal hws)
  | .rounding rm =>
    cases h
    exact writable_word rm.isWord_name
  | .offset n =>
    obtain ⟨w, rfl, hw⟩ := h
    exact writable_word (isWord_of_readNumeral hw)

/-! ### Round trip and selection -/

theorem writable_of_assemble {st : RawStatement} {i : Instr} (h : assemble st = .ok i) : st.Writable := by
  obtain ⟨hvalid, m, hm, hst⟩ := assemble_eq_ok h
  refine ⟨fun d hd => isWord_of_valid (List.all_eq_true.1 hvalid d hd), hst.few, hm ▸ m.isWord_text, ?_⟩
  exact forall_right_of_forall₂ hst.args fun _ _ => writable_of_spellsArg

/-- A statement that is assembled into an instruction is decoded to it from its text. -/
theorem decode_text_of_assemble {st : RawStatement} {i : Instr} (h : assemble st = .ok i) :
    decode (st.tokens.flatMap Token.text) = .ok i :=
  decode_eq_ok.2 ⟨st, (writable_of_assemble h).parse_text, h⟩

/-- Settles O3: an assembled statement has identifiers for destinations, and spelled operands have identifiers for names. -/
theorem decodedIsWellFormed : Obligations.DecodedIsWellFormed := by
  intro t i h
  obtain ⟨st, -, hst⟩ := decode_eq_ok.1 h
  obtain ⟨hvalid, m, -, hi⟩ := assemble_eq_ok hst
  have hdests : i.statement.dests.all (fun d => d.1.valid) = true := by
    simpa [← hi.dests, List.all_map, Function.comp_def] using hvalid
  have hargs : i.statement.args.all Arg.wellFormed = true :=
    List.all_eq_true.2 (forall_left_of_forall₂ hi.args fun _ _ => wellFormed_of_spellsArg)
  simp [Instr.wellFormed, hdests, hargs, hi.dests, hi.distinct]

/-- Settles O4: the row that answers is that of the mnemonic in the text, and the instruction it answers has that mnemonic. -/
theorem mnemonicSelects : Obligations.MnemonicSelects := by
  refine ⟨fun t st i hst h => ?_, by decide +kernel, by decide +kernel⟩
  obtain ⟨st', hst', hi⟩ := decode_eq_ok.1 h
  obtain rfl : st' = st := Option.some.inj (hst'.symm.trans hst)
  obtain ⟨-, m, hm, hstands⟩ := assemble_eq_ok hi
  rw [hm, hstands.mnemonic]

end Sys2Proof
end

section
/-! The round trip of the encoder and the decoder, and statements written out (30_encoding.md R107, R109). -/

namespace Sys2Proof

/-- The statement the encoder writes for a well-formed instruction is assembled back to it, whatever the instruction. -/
theorem Laws.Assembles.all : ∀ i : Instr, Laws.Assembles.Statement i
  | .b8x16Build d x => b8x16Build d x
  | .b16x8Build d x => b16x8Build d x
  | .b32x4Build d x => b32x4Build d x
  | .b64x2Build d x => b64x2Build d x
  | .i8x16Build d x => i8x16Build d x
  | .i16x8Build d x => i16x8Build d x
  | .i32x4Build d x => i32x4Build d x
  | .i64x2Build d x => i64x2Build d x
  | .f32x4Build d x => f32x4Build d x
  | .f64x2Build d x => f64x2Build d x
  | .b8x16Splat d x => b8x16Splat d x
  | .b16x8Splat d x => b16x8Splat d x
  | .b32x4Splat d x => b32x4Splat d x
  | .b64x2Splat d x => b64x2Splat d x
  | .i8x16Splat d x => i8x16Splat d x
  | .i16x8Splat d x => i16x8Splat d x
  | .i32x4Splat d x => i32x4Splat d x
  | .i64x2Splat d x => i64x2Splat d x
  | .f32x4Splat d x => f32x4Splat d x
  | .f64x2Splat d x => f64x2Splat d x
  | .b8x16ExtractLane d a i => b8x16ExtractLane d a i
  | .b16x8ExtractLane d a i => b16x8ExtractLane d a i
  | .b32x4ExtractLane d a i => b32x4ExtractLane d a i
  | .b64x2ExtractLane d a i => b64x2ExtractLane d a i
  | .i8x16ExtractLane d a i => i8x16ExtractLane d a i
  | .i16x8ExtractLane d a i => i16x8ExtractLane d a i
  | .i32x4ExtractLane d a i => i32x4ExtractLane d a i
  | .i64x2ExtractLane d a i => i64x2ExtractLane d a i
  | .f32x4ExtractLane d a i => f32x4ExtractLane d a i
  | .f64x2ExtractLane d a i => f64x2ExtractLane d a i
  | .b8x16ReplaceLane d a i x => b8x16ReplaceLane d a i x
  | .b16x8ReplaceLane d a i x => b16x8ReplaceLane d a i x
  | .b32x4ReplaceLane d a i x => b32x4ReplaceLane d a i x
  | .b64x2ReplaceLane d a i x => b64x2ReplaceLane d a i x
  | .i8x16ReplaceLane d a i x => i8x16ReplaceLane d a i x
  | .i16x8ReplaceLane d a i x => i16x8ReplaceLane d a i x
  | .i32x4ReplaceLane d a i x => i32x4ReplaceLane d a i x
  | .i64x2ReplaceLane d a i x => i64x2ReplaceLane d a i x
  | .f32x4ReplaceLane d a i x => f32x4ReplaceLane d a i x
  | .f64x2ReplaceLane d a i x => f64x2ReplaceLane d a i x
  | .v8x16Select d s t f => v8x16Select d s t f
  | .v16x8Select d s t f => v16x8Select d s t f
  | .v32x4Select d s t f => v32x4Select d s t f
  | .v64x2Select d s t f => v64x2Select d s t f
  | .v8x16Swizzle d a s => v8x16Swizzle d a s
  | .v16x8Swizzle d a s => v16x8Swizzle d a s
  | .v32x4Swizzle d a s => v32x4Swizzle d a s
  | .v64x2Swizzle d a s => v64x2Swizzle d a s
  | .v8x16Shuffle d a b s => v8x16Shuffle d a b s
  | .v16x8Shuffle d a b s => v16x8Shuffle d a b s
  | .v32x4Shuffle d a b s => v32x4Shuffle d a b s
  | .v64x2Shuffle d a b s => v64x2Shuffle d a b s
  | .i8x16Add d a b => i8x16Add d a b
  | .i16x8Add d a b => i16x8Add d a b
  | .i32x4Add d a b => i32x4Add d a b
  | .i64x2Add d a b => i64x2Add d a b
  | .i8x16Sub d a b => i8x16Sub d a b
  | .i16x8Sub d a b => i16x8Sub d a b
  | .i32x4Sub d a b => i32x4Sub d a b
  | .i64x2Sub d a b => i64x2Sub d a b
  | .i8x16Mul d a b => i8x16Mul d a b
  | .i16x8Mul d a b => i16x8Mul d a b
  | .i32x4Mul d a b => i32x4Mul d a b
  | .i64x2Mul d a b => i64x2Mul d a b
  | .i8x16Neg d a => i8x16Neg d a
  | .i16x8Neg d a => i16x8Neg d a
  | .i32x4Neg d a => i32x4Neg d a
  | .i64x2Neg d a => i64x2Neg d a
  | .s8x16AddSaturate d a b => s8x16AddSaturate d a b
  | .s16x8AddSaturate d a b => s16x8AddSaturate d a b
  | .u8x16AddSaturate d a b => u8x16AddSaturate d a b
  | .u16x8AddSaturate d a b => u16x8AddSaturate d a b
  | .s8x16SubSaturate d a b => s8x16SubSaturate d a b
  | .s16x8SubSaturate d a b => s16x8SubSaturate d a b
  | .u8x16SubSaturate d a b => u8x16SubSaturate d a b
  | .u16x8SubSaturate d a b => u16x8SubSaturate d a b
  | .i8x16ShiftLeftByScalar d a y => i8x16ShiftLeftByScalar d a y
  | .i16x8ShiftLeftByScalar d a y => i16x8ShiftLeftByScalar d a y
  | .i32x4ShiftLeftByScalar d a y => i32x4ShiftLeftByScalar d a y
  | .i64x2ShiftLeftByScalar d a y => i64x2ShiftLeftByScalar d a y
  | .s8x16ShiftRightByScalar d a y => s8x16ShiftRightByScalar d a y
  | .s16x8ShiftRightByScalar d a y => s16x8ShiftRightByScalar d a y
  | .s32x4ShiftRightByScalar d a y => s32x4ShiftRightByScalar d a y
  | .s64x2ShiftRightByScalar d a y => s64x2ShiftRightByScalar d a y
  | .u8x16ShiftRightByScalar d a y => u8x16ShiftRightByScalar d a y
  | .u16x8ShiftRightByScalar d a y => u16x8ShiftRightByScalar d a y
  | .u32x4ShiftRightByScalar d a y => u32x4ShiftRightByScalar d a y
  | .u64x2ShiftRightByScalar d a y => u64x2ShiftRightByScalar d a y
  | .b8x16And d a b => b8x16And d a b
  | .b16x8And d a b => b16x8And d a b
  | .b32x4And d a b => b32x4And d a b
  | .b64x2And d a b => b64x2And d a b
  | .b8x16Or d a b => b8x16Or d a b
  | .b16x8Or d a b => b16x8Or d a b
  | .b32x4Or d a b => b32x4Or d a b
  | .b64x2Or d a b => b64x2Or d a b
  | .b8x16Xor d a b => b8x16Xor d a b
  | .b16x8Xor d a b => b16x8Xor d a b
  | .b32x4Xor d a b => b32x4Xor d a b
  | .b64x2Xor d a b => b64x2Xor d a b
  | .b8x16Not d a => b8x16Not d a
  | .b16x8Not d a => b16x8Not d a
  | .b32x4Not d a => b32x4Not d a
  | .b64x2Not d a => b64x2Not d a
  | .v128And d a b => v128And d a b
  | .v128Or d a b => v128Or d a b
  | .v128Xor d a b => v128Xor d a b
  | .v128Not d a => v128Not d a
  | .b8x16AnyTrue d a => b8x16AnyTrue d a
  | .b16x8AnyTrue d a => b16x8AnyTrue d a
  | .b32x4AnyTrue d a => b32x4AnyTrue d a
  | .b64x2AnyTrue d a => b64x2AnyTrue d a
  | .b8x16AllTrue d a => b8x16AllTrue d a
  | .b16x8AllTrue d a => b16x8AllTrue d a
  | .b32x4AllTrue d a => b32x4AllTrue d a
  | .b64x2AllTrue d a => b64x2AllTrue d a
  | .i8x16Equal d a b => i8x16Equal d a b
  | .i16x8Equal d a b => i16x8Equal d a b
  | .i32x4Equal d a b => i32x4Equal d a b
  | .i64x2Equal d a b => i64x2Equal d a b
  | .f32x4Equal d a b => f32x4Equal d a b
  | .f64x2Equal d a b => f64x2Equal d a b
  | .i8x16NotEqual d a b => i8x16NotEqual d a b
  | .i16x8NotEqual d a b => i16x8NotEqual d a b
  | .i32x4NotEqual d a b => i32x4NotEqual d a b
  | .i64x2NotEqual d a b => i64x2NotEqual d a b
  | .f32x4NotEqual d a b => f32x4NotEqual d a b
  | .f64x2NotEqual d a b => f64x2NotEqual d a b
  | .s8x16LessThan d a b => s8x16LessThan d a b
  | .s16x8LessThan d a b => s16x8LessThan d a b
  | .s32x4LessThan d a b => s32x4LessThan d a b
  | .s64x2LessThan d a b => s64x2LessThan d a b
  | .u8x16LessThan d a b => u8x16LessThan d a b
  | .u16x8LessThan d a b => u16x8LessThan d a b
  | .u32x4LessThan d a b => u32x4LessThan d a b
  | .u64x2LessThan d a b => u64x2LessThan d a b
  | .f32x4LessThan d a b => f32x4LessThan d a b
  | .f64x2LessThan d a b => f64x2LessThan d a b
  | .s8x16LessThanOrEqual d a b => s8x16LessThanOrEqual d a b
  | .s16x8LessThanOrEqual d a b => s16x8LessThanOrEqual d a b
  | .s32x4LessThanOrEqual d a b => s32x4LessThanOrEqual d a b
  | .s64x2LessThanOrEqual d a b => s64x2LessThanOrEqual d a b
  | .u8x16LessThanOrEqual d a b => u8x16LessThanOrEqual d a b
  | .u16x8LessThanOrEqual d a b => u16x8LessThanOrEqual d a b
  | .u32x4LessThanOrEqual d a b => u32x4LessThanOrEqual d a b
  | .u64x2LessThanOrEqual d a b => u64x2LessThanOrEqual d a b
  | .f32x4LessThanOrEqual d a b => f32x4LessThanOrEqual d a b
  | .f64x2LessThanOrEqual d a b => f64x2LessThanOrEqual d a b
  | .s8x16GreaterThan d a b => s8x16GreaterThan d a b
  | .s16x8GreaterThan d a b => s16x8GreaterThan d a b
  | .s32x4GreaterThan d a b => s32x4GreaterThan d a b
  | .s64x2GreaterThan d a b => s64x2GreaterThan d a b
  | .u8x16GreaterThan d a b => u8x16GreaterThan d a b
  | .u16x8GreaterThan d a b => u16x8GreaterThan d a b
  | .u32x4GreaterThan d a b => u32x4GreaterThan d a b
  | .u64x2GreaterThan d a b => u64x2GreaterThan d a b
  | .f32x4GreaterThan d a b => f32x4GreaterThan d a b
  | .f64x2GreaterThan d a b => f64x2GreaterThan d a b
  | .s8x16GreaterThanOrEqual d a b => s8x16GreaterThanOrEqual d a b
  | .s16x8GreaterThanOrEqual d a b => s16x8GreaterThanOrEqual d a b
  | .s32x4GreaterThanOrEqual d a b => s32x4GreaterThanOrEqual d a b
  | .s64x2GreaterThanOrEqual d a b => s64x2GreaterThanOrEqual d a b
  | .u8x16GreaterThanOrEqual d a b => u8x16GreaterThanOrEqual d a b
  | .u16x8GreaterThanOrEqual d a b => u16x8GreaterThanOrEqual d a b
  | .u32x4GreaterThanOrEqual d a b => u32x4GreaterThanOrEqual d a b
  | .u64x2GreaterThanOrEqual d a b => u64x2GreaterThanOrEqual d a b
  | .f32x4GreaterThanOrEqual d a b => f32x4GreaterThanOrEqual d a b
  | .f64x2GreaterThanOrEqual d a b => f64x2GreaterThanOrEqual d a b
  | .v8x16Load d mem addr => v8x16Load d mem addr
  | .v16x8Load d mem addr => v16x8Load d mem addr
  | .v32x4Load d mem addr => v32x4Load d mem addr
  | .v64x2Load d mem addr => v64x2Load d mem addr
  | .v8x16Store mem addr data => v8x16Store mem addr data
  | .v16x8Store mem addr data => v16x8Store mem addr data
  | .v32x4Store mem addr data => v32x4Store mem addr data
  | .v64x2Store mem addr data => v64x2Store mem addr data
  | .v32x4Load1 d mem addr => v32x4Load1 d mem addr
  | .v32x4Load2 d mem addr => v32x4Load2 d mem addr
  | .v32x4Load3 d mem addr => v32x4Load3 d mem addr
  | .v32x4Store1 mem addr data => v32x4Store1 mem addr data
  | .v32x4Store2 mem addr data => v32x4Store2 mem addr data
  | .v32x4Store3 mem addr data => v32x4Store3 mem addr data
  | .f32x4Neg d a => f32x4Neg d a
  | .f64x2Neg d a => f64x2Neg d a
  | .f32x4Abs d a => f32x4Abs d a
  | .f64x2Abs d a => f64x2Abs d a
  | .f32x4Min d a b => f32x4Min d a b
  | .f64x2Min d a b => f64x2Min d a b
  | .f32x4Max d a b => f32x4Max d a b
  | .f64x2Max d a b => f64x2Max d a b
  | .f32x4MinNum d a b => f32x4MinNum d a b
  | .f64x2MinNum d a b => f64x2MinNum d a b
  | .f32x4MaxNum d a b => f32x4MaxNum d a b
  | .f64x2MaxNum d a b => f64x2MaxNum d a b
  | .f32x4Add d a b rm => f32x4Add d a b rm
  | .f64x2Add d a b rm => f64x2Add d a b rm
  | .f32x4Sub d a b rm => f32x4Sub d a b rm
  | .f64x2Sub d a b rm => f64x2Sub d a b rm
  | .f32x4Div d a b rm => f32x4Div d a b rm
  | .f64x2Div d a b rm => f64x2Div d a b rm
  | .f32x4Mul d a b rm => f32x4Mul d a b rm
  | .f64x2Mul d a b rm => f64x2Mul d a b rm
  | .f32x4Sqrt d a rm => f32x4Sqrt d a rm
  | .f64x2Sqrt d a rm => f64x2Sqrt d a rm
  | .f32x4ReciprocalApproximation d a => f32x4ReciprocalApproximation d a
  | .f64x2ReciprocalApproximation d a => f64x2ReciprocalApproximation d a
  | .f32x4ReciprocalSqrtApproximation d a => f32x4ReciprocalSqrtApproximation d a
  | .f64x2ReciprocalSqrtApproximation d a => f64x2ReciprocalSqrtApproximation d a
  | .f32x4FromSignedInt d a rm => f32x4FromSignedInt d a rm
  | .f64x2FromSignedInt d a rm => f64x2FromSignedInt d a rm
  | .f32x4FromUnsignedInt d a rm => f32x4FromUnsignedInt d a rm
  | .f64x2FromUnsignedInt d a rm => f64x2FromUnsignedInt d a rm
  | .s32x4FromFloat d1 d2 a => s32x4FromFloat d1 d2 a
  | .s64x2FromFloat d1 d2 a => s64x2FromFloat d1 d2 a
  | .u32x4FromFloat d1 d2 a => u32x4FromFloat d1 d2 a
  | .u64x2FromFloat d1 d2 a => u64x2FromFloat d1 d2 a

/-- Settles O2: a well-formed instruction is assembled from the statement the encoder writes, and a statement that is
assembled is decoded from its text. -/
theorem decodeEncodeRoundTrip : Obligations.DecodeEncodeRoundTrip :=
  fun i h => decode_text_of_assemble (Laws.Assembles.all i h)

/-- Settles O1, by running the decoder on the eight texts. -/
theorem decodedWords : Obligations.DecodedWords := by
  unfold Obligations.DecodedWords
  simp only [String.reduceToList]
  decide +kernel

end Sys2Proof
end

section
/-! The statement a step executes (30_encoding.md R109). -/

namespace Sys2Proof.Machine

/-- Each text of a loaded program decodes to the instruction at its place. -/
theorem decode_of_loadFrom {l : Launch} {ts : Types} {program : List Text} {is : List Instr} {k : Nat} {t : Text}
    (h : loadFrom l ts program = .ok is) (ht : program[k]? = some t) : ∃ i, is[k]? = some i ∧ decode t = .ok i := by
  induction program generalizing ts is k with
  | nil => simp at ht
  | cons t' r ih =>
    obtain ⟨j, rest, rfl, hj, -, hrest⟩ := loadFrom_cons_ok h
    cases k with
    | zero => cases ht; exact ⟨j, rfl, hj⟩
    | succ k => simpa using ih hrest ht

/-- Settles O5: the instruction at `pc` of the loaded program is the one that the text at `pc` decodes to. -/
theorem stepRunsDecoded : Obligations.StepRunsDecoded := by
  intro s is t i hf hl ht hd
  obtain ⟨j, hj, hdj⟩ := decode_of_loadFrom hl ht
  obtain rfl : j = i := Except.ok.inj (hdj.symm.trans hd)
  simp [step, hf, hl, hj]

end Sys2Proof.Machine
end

section
/-! The checks before an operation (30_encoding.md R108): which refusal each gives, and that every instruction makes them on
the destinations, the Buffer and the operands of its own statement. -/

namespace Sys2Proof.Machine

/-! ### The refusals, in their order -/

section
variable {α : Type} {s : State} {ds : List (Ident × Ty)} {mem : Option Ident} {g : Got α} (k : α → Out)

theorem withOperands_operandTypes (hg : g.ill = true) :
    withOperands s ds mem g k = .refused (.illFormed .operandTypes) := by
  simp [withOperands, hg]

theorem withOperands_destinationTypes (hg : g.ill = false) (hd : ¬ ∀ e ∈ ds, s.accepts e.1 e.2 = true) :
    withOperands s ds mem g k = .refused (.illFormed .destinationTypes) := by
  have hd' : (ds.all fun d => s.accepts d.1 d.2) = false := Bool.eq_false_iff.2 (mt List.all_eq_true.1 hd)
  simp [withOperands, hg, hd']

theorem withOperands_bufferKnown (hg : g.ill = false) (hd : ∀ e ∈ ds, s.accepts e.1 e.2 = true)
    (hm : ¬ ∀ m, mem = some m → (s.buffer m).isSome = true) :
    withOperands s ds mem g k = .refused (.illFormed .bufferKnown) := by
  have hd' : (ds.all fun d => s.accepts d.1 d.2) = true := List.all_eq_true.2 hd
  cases mem with
  | none => simp at hm
  | some m => simp [withOperands, hg, hd', show (s.buffer m).isSome = false by simpa using hm]

theorem withOperands_distinctDestinations (hg : g.ill = false) (hd : ∀ e ∈ ds, s.accepts e.1 e.2 = true)
    (hm : ∀ m, mem = some m → (s.buffer m).isSome = true) (hn : distinctNames (ds.map Prod.fst) = false) :
    withOperands s ds mem g k = .refused (.illFormed .distinctDestinations) := by
  have hd' : (ds.all fun d => s.accepts d.1 d.2) = true := List.all_eq_true.2 hd
  cases mem with
  | none => simp [withOperands, hg, hd', hn]
  | some m => simp [withOperands, hg, hd', hm m rfl, hn]

end

/-! ### Ill-typed operands -/

theorem Got.ill_both {α β : Type} (g : Got α) (h : Got β) : (g.both h).ill = (g.ill || h.ill) := by
  cases g <;> cases h <;> rfl

theorem Got.ill_map {α β : Type} (f : α → β) (g : Got α) : (g.map f).ill = g.ill := by
  cases g <;> rfl

/-- What is read of some operands is not ill-typed exactly when every slot they read is unwritten or of the type asked for. -/
def Judges {α : Type} (s : State) (args : List Arg) (g : Got α) : Prop :=
  g.ill = false ↔ ∀ e ∈ args.flatMap Arg.reads, s.accepts e.1 e.2 = true

theorem ill_read {lit val : Type} {k : Kind lit val} (hk : k.Lawful) (s : State) (o : Operand lit) :
    (read k s o).ill = false ↔ ∀ e ∈ o.reads k.ty, s.accepts e.1 e.2 = true := by
  cases o with
  | lit l => simp [read, Operand.reads, Got.ill]
  | slot x =>
    cases hx : s.slot x with
    | none => simp [read, Operand.reads, State.accepts, hx, Got.ill]
    | some v =>
      cases hv : k.proj v with
      | some a =>
        have hty : v.ty = k.ty := hk.proj_some v a hv ▸ hk.inj_ty a
        simp [read, Operand.reads, State.accepts, hx, hv, Got.ill, hty]
      | none =>
        have hty : v.ty ≠ k.ty := fun h => by simpa [hv] using hk.proj_ty v h
        simp [read, Operand.reads, State.accepts, hx, hv, Got.ill, hty]

theorem ill_readList {lit val : Type} {k : Kind lit val} (hk : k.Lawful) (s : State) (os : List (Operand lit)) :
    (readList k s os).ill = false ↔ ∀ e ∈ os.flatMap (Operand.reads k.ty), s.accepts e.1 e.2 = true := by
  induction os with
  | nil => simp [readList, Got.ill]
  | cons o r ih =>
    rw [readList, Got.ill_map, Got.ill_both, Bool.or_eq_false_iff, ill_read hk, ih, List.flatMap_cons, List.forall_mem_append]

section
variable {s : State}

theorem Judges.one {α : Type} {a : Arg} {g : Got α} (h : g.ill = false ↔ ∀ e ∈ a.reads, s.accepts e.1 e.2 = true) :
    Judges s [a] g := by
  simpa [Judges] using h

theorem judges_vector (a : VOperand) : Judges s [.vector a] (read kV128 s a) := .one (ill_read kV128_lawful s a)

theorem judges_mask {n : Nat} {k : Kind (Lanes Bool n) (Lanes Bool n)} (hk : k.Lawful) (a : Operand (Lanes Bool n)) :
    Judges s [.mask k.ty a] (read k s a) := .one (ill_read hk s a)

theorem judges_scalar {W : Nat} {k : Kind (BitVec W) (BitVec W)} (hk : k.Lawful) (x : Operand (BitVec W)) :
    Judges s [.scalar k.ty x] (read k s x) := .one (ill_read hk s x)

theorem judges_boolean (x : Operand Bool) : Judges s [.boolean x] (read kBool s x) := .one (ill_read kBool_lawful s x)

theorem ill_readArray {lit val : Type} {n : Nat} {k : Kind lit val} (hk : k.Lawful) (x : Lanes (Operand lit) n) :
    (readArray k s x).ill = false ↔ ∀ e ∈ x.toList.flatMap (Operand.reads k.ty), s.accepts e.1 e.2 = true := by
  rw [readArray, Got.ill_map, ill_readList hk]

theorem judges_scalars {W n : Nat} {k : Kind (BitVec W) (BitVec W)} (hk : k.Lawful) (x : Lanes (Operand (BitVec W)) n) :
    Judges s [.scalars k.ty x.toList] (readArray k s x) := .one (ill_readArray hk x)

theorem judges_booleans {n : Nat} (x : Lanes (Operand Bool) n) : Judges s [.booleans x.toList] (readArray kBool s x) :=
  .one (ill_readArray kBool_lawful x)

theorem Judges.both {α β : Type} {as bs : List Arg} {g : Got α} {h : Got β} (hg : Judges s as g) (hh : Judges s bs h) :
    Judges s (as ++ bs) (g.both h) := by
  rw [Judges] at *
  rw [Got.ill_both, Bool.or_eq_false_iff, hg, hh, List.flatMap_append, List.forall_mem_append]

theorem judges_vectors (a b : VOperand) : Judges s [.vector a, .vector b] ((read kV128 s a).both (read kV128 s b)) :=
  (judges_vector a).both (judges_vector b)

/-- An operand that stands in the statement as a literal is no slot to read. -/
theorem Judges.literal {α : Type} {as : List Arg} {g : Got α} (hg : Judges s as g) (b : Arg) (hb : b.reads = [] := by rfl) :
    Judges s (as ++ [b]) g := by
  simpa [Judges, hb] using hg

end

/-! ### Statements that make the checks -/

/-- The part of `operand_types` that depends on the state: the slots read are unwritten or of the type asked for, and the
ByteOffset is of its type. -/
def OperandsFit (st : Statement) (s : State) : Prop :=
  (∀ e ∈ st.reads, s.accepts e.1 e.2 = true) ∧ ∀ a, st.offset? = some a → a < 2 ^ s.params.offsetBits

/-- The outcome is that of an operation after the checks on this statement. -/
def Checked (s : State) (st : Statement) (o : Out) : Prop :=
  ∃ (α : Type) (g : Got α) (k : α → Out),
    o = withOperands s st.dests st.buffer? g k ∧ (g.ill = false ↔ OperandsFit st s)

section
variable {s : State} {m : Mnemonic} {d : Ident} {args : List Arg}

theorem ill_iff_operandsFit {α : Type} {g : Got α} {ds : List (Ident × Ty)} (hg : Judges s args g)
    (ho : args.findSome? Arg.offset? = none) : g.ill = false ↔ OperandsFit ⟨m, ds, args⟩ s := by
  simp only [Judges, OperandsFit, Statement.reads, Statement.offset?, ho] at hg ⊢
  simp [hg]

theorem exec1_checked {α lit val : Type} {k : Kind lit val} {g : Got α} {f : α → val} (hg : Judges s args g)
    (ho : args.findSome? Arg.offset? = none := by rfl) (hb : args.findSome? Arg.buffer? = none := by rfl) :
    Checked s ⟨m, [(d, k.ty)], args⟩ (exec1 s d k g f) :=
  ⟨α, g, _, by rw [Statement.buffer?, hb]; rfl, ill_iff_operandsFit hg ho⟩

theorem execDraw_checked {α : Type} {n : Nat} {g : Got α} {f : Nat → α → V128} (hg : Judges s args g)
    (ho : args.findSome? Arg.offset? = none := by rfl) (hb : args.findSome? Arg.buffer? = none := by rfl) :
    Checked s ⟨m, [(d, .v128)], args⟩ (execDraw s d n g f) :=
  ⟨α, g, _, by rw [Statement.buffer?, hb]; rfl, ill_iff_operandsFit hg ho⟩

theorem drawBinary_checked {n : Nat} {a b : VOperand} {f : Nat → V128 → V128 → V128}
    (hg : Judges s args ((read kV128 s a).both (read kV128 s b))) (ho : args.findSome? Arg.offset? = none := by rfl)
    (hb : args.findSome? Arg.buffer? = none := by rfl) : Checked s ⟨m, [(d, .v128)], args⟩ (drawBinary s d n a b f) :=
  execDraw_checked hg ho hb

theorem execCvt_checked {d₂ : Ident} {a : VOperand} {f : Nat → V128 → V128 × Bool} :
    Checked s ⟨m, [(d, .v128), (d₂, .boolean)], [.vector a]⟩ (execCvt s d d₂ (read kV128 s a) f) :=
  ⟨V128, _, _, rfl, ill_iff_operandsFit (judges_vector a) rfl⟩

theorem ill_readOffset (s : State) (a : Nat) : (readOffset s a).ill = false ↔ a < 2 ^ s.params.offsetBits := by
  unfold readOffset
  split_ifs with h <;> simp [Got.ill, h]

theorem execLoadLanes_checked {mem : Ident} {addr W L : Nat} :
    Checked s ⟨m, [(d, .v128)], [.buffer mem, .offset addr]⟩ (execLoadLanes s d mem addr W L) := by
  refine ⟨Nat, _, _, rfl, ?_⟩
  have hoffset : (Statement.mk m [(d, .v128)] [.buffer mem, .offset addr]).offset? = some addr := rfl
  simp [ill_readOffset, OperandsFit, hoffset, Statement.reads, Arg.reads]

theorem execStoreLanes_checked {mem : Ident} {addr W L : Nat} {data : VOperand} :
    Checked s ⟨m, [], [.buffer mem, .offset addr, .vector data]⟩ (execStoreLanes s mem addr data W L) := by
  refine ⟨Nat × V128, _, _, rfl, ?_⟩
  have hoffset : (Statement.mk m [] [.buffer mem, .offset addr, .vector data]).offset? = some addr := rfl
  have hdata : (read kV128 s data).ill = false ↔ ∀ e ∈ data.reads .v128, s.accepts e.1 e.2 = true :=
    ill_read kV128_lawful s data
  simp [Got.ill_both, ill_readOffset, hdata, OperandsFit, hoffset, Statement.reads, Arg.reads, and_comm]

end

/-- Every instruction makes the checks on its statement before it does anything, by the shape of its meaning. -/
theorem exec_checked (i : Instr) (s : State) : Checked s i.statement (exec i s) := by
  cases i
  -- build and splat
  iterate 4 exact exec1_checked (judges_booleans _)
  · exact exec1_checked (judges_scalars kI8_lawful _)
  · exact exec1_checked (judges_scalars kI16_lawful _)
  · exact exec1_checked (judges_scalars kI32_lawful _)
  · exact exec1_checked (judges_scalars kI64_lawful _)
  · exact exec1_checked (judges_scalars kF32_lawful _)
  · exact exec1_checked (judges_scalars kF64_lawful _)
  iterate 4 exact exec1_checked (judges_boolean _)
  · exact exec1_checked (judges_scalar kI8_lawful _)
  · exact exec1_checked (judges_scalar kI16_lawful _)
  · exact exec1_checked (judges_scalar kI32_lawful _)
  · exact exec1_checked (judges_scalar kI64_lawful _)
  · exact exec1_checked (judges_scalar kF32_lawful _)
  · exact exec1_checked (judges_scalar kF64_lawful _)
  -- extractLane, replaceLane, select, swizzle, shuffle
  · exact exec1_checked ((judges_mask kB8x16_lawful _).literal _)
  · exact exec1_checked ((judges_mask kB16x8_lawful _).literal _)
  · exact exec1_checked ((judges_mask kB32x4_lawful _).literal _)
  · exact exec1_checked ((judges_mask kB64x2_lawful _).literal _)
  iterate 6 exact exec1_checked ((judges_vector _).literal _)
  · exact exec1_checked (((judges_mask kB8x16_lawful _).literal _).both (judges_boolean _))
  · exact exec1_checked (((judges_mask kB16x8_lawful _).literal _).both (judges_boolean _))
  · exact exec1_checked (((judges_mask kB32x4_lawful _).literal _).both (judges_boolean _))
  · exact exec1_checked (((judges_mask kB64x2_lawful _).literal _).both (judges_boolean _))
  · exact exec1_checked (((judges_vector _).literal _).both (judges_scalar kI8_lawful _))
  · exact exec1_checked (((judges_vector _).literal _).both (judges_scalar kI16_lawful _))
  · exact exec1_checked (((judges_vector _).literal _).both (judges_scalar kI32_lawful _))
  · exact exec1_checked (((judges_vector _).literal _).both (judges_scalar kI64_lawful _))
  · exact exec1_checked (((judges_vector _).literal _).both (judges_scalar kF32_lawful _))
  · exact exec1_checked (((judges_vector _).literal _).both (judges_scalar kF64_lawful _))
  · exact exec1_checked ((judges_mask kB8x16_lawful _).both (judges_vectors _ _))
  · exact exec1_checked ((judges_mask kB16x8_lawful _).both (judges_vectors _ _))
  · exact exec1_checked ((judges_mask kB32x4_lawful _).both (judges_vectors _ _))
  · exact exec1_checked ((judges_mask kB64x2_lawful _).both (judges_vectors _ _))
  iterate 4 exact exec1_checked ((judges_vector _).literal _)
  iterate 4 exact exec1_checked ((judges_vectors _ _).literal _)
  -- integer arithmetic, saturating arithmetic, shifts
  iterate 12 exact exec1_checked (judges_vectors _ _)
  iterate 4 exact exec1_checked (judges_vector _)
  iterate 8 exact exec1_checked (judges_vectors _ _)
  iterate 12 exact exec1_checked ((judges_vector _).both (judges_scalar kI8_lawful _))
  -- logical and bitwise operations, reductions
  iterate 3
    · exact exec1_checked ((judges_mask kB8x16_lawful _).both (judges_mask kB8x16_lawful _))
    · exact exec1_checked ((judges_mask kB16x8_lawful _).both (judges_mask kB16x8_lawful _))
    · exact exec1_checked ((judges_mask kB32x4_lawful _).both (judges_mask kB32x4_lawful _))
    · exact exec1_checked ((judges_mask kB64x2_lawful _).both (judges_mask kB64x2_lawful _))
  · exact exec1_checked (judges_mask kB8x16_lawful _)
  · exact exec1_checked (judges_mask kB16x8_lawful _)
  · exact exec1_checked (judges_mask kB32x4_lawful _)
  · exact exec1_checked (judges_mask kB64x2_lawful _)
  iterate 3 exact exec1_checked (judges_vectors _ _)
  · exact exec1_checked (judges_vector _)
  iterate 2
    · exact exec1_checked (judges_mask kB8x16_lawful _)
    · exact exec1_checked (judges_mask kB16x8_lawful _)
    · exact exec1_checked (judges_mask kB32x4_lawful _)
    · exact exec1_checked (judges_mask kB64x2_lawful _)
  -- comparisons
  iterate 52 exact exec1_checked (judges_vectors _ _)
  -- loads and stores
  iterate 4 exact execLoadLanes_checked
  iterate 4 exact execStoreLanes_checked
  iterate 3 exact execLoadLanes_checked
  iterate 3 exact execStoreLanes_checked
  -- floating-point sign, minimum and maximum
  iterate 4 exact exec1_checked (judges_vector _)
  iterate 8 exact drawBinary_checked (judges_vectors _ _)
  -- floating-point arithmetic and the approximations
  iterate 8 exact drawBinary_checked ((judges_vectors _ _).literal _)
  iterate 2 exact execDraw_checked ((judges_vector _).literal _)
  iterate 4 exact execDraw_checked (judges_vector _)
  -- conversions
  iterate 4 exact exec1_checked ((judges_vector _).literal _)
  iterate 4 exact execCvt_checked

/-- Settles O19: every instruction makes the checks on its statement, and each refuses by its name when those before it pass. -/
theorem checksRefuseByName : Obligations.ChecksRefuseByName := by
  intro i s
  obtain ⟨α, g, k, ho, hg⟩ := exec_checked i s
  rw [ho]
  refine ⟨fun hr => ?_, fun hr hd => ?_, fun hr hd hm => ?_, fun hr hd hm hn => ?_⟩
  · exact withOperands_operandTypes k (by simpa using mt hg.1 hr)
  · exact withOperands_destinationTypes k (hg.2 hr) hd
  · exact withOperands_bufferKnown k (hg.2 hr) hd hm
  · exact withOperands_distinctDestinations k (hg.2 hr) hd hm hn

end Sys2Proof.Machine
end

section
/-! Floating-point data by code (40_fp_semantics.md R131 to R134): a datum is a sign and a code, the number its other bits spell;
the classes are ranges of codes, and magnitudes rise with the code. -/

namespace Sys2Proof.Machine

variable {W : Nat}

/-- What the two formats have in common (R131, R132): the three fields fill the width, and none of them is too small for the
quiet bit and for an exponent between those of the subnormals and of the infinities. -/
structure Fmt.Regular (f : Fmt W) : Prop where
  width : W = f.expBits + f.fracBits + 1
  exp : 2 ≤ f.expBits
  frac : 1 ≤ f.fracBits

theorem binary32_regular : binary32.Regular := ⟨rfl, by decide, by decide⟩

theorem binary64_regular : binary64.Regular := ⟨rfl, by decide, by decide⟩

/-! ### Codes -/

/-- The bits of a datum below its sign, read as a number. -/
def Fmt.code (f : Fmt W) (x : BitVec W) : Nat := x.toNat % 2 ^ (f.expBits + f.fracBits)

/-- The code of the infinities, one above that of the largest finite number. -/
def Fmt.infCode (f : Fmt W) : Nat := f.emask * 2 ^ f.fracBits

/-- The magnitude of a code in units of `2^(emin - T)`. -/
def Fmt.magOf (f : Fmt W) (c : Nat) : Nat :=
  if c / 2 ^ f.fracBits = 0 then c % 2 ^ f.fracBits
  else (2 ^ f.fracBits + c % 2 ^ f.fracBits) * 2 ^ (c / 2 ^ f.fracBits - 1)

theorem Fmt.expField_eq (f : Fmt W) (x : BitVec W) : f.expField x = f.code x / 2 ^ f.fracBits := by
  rw [Fmt.expField, Fmt.code, Nat.add_comm, Nat.pow_add, Nat.mod_mul_right_div_self]

theorem Fmt.fracField_eq (f : Fmt W) (x : BitVec W) : f.fracField x = f.code x % 2 ^ f.fracBits := by
  rw [Fmt.fracField, Fmt.code, Nat.mod_mod_of_dvd _ (Nat.pow_dvd_pow 2 (Nat.le_add_left _ _))]

theorem Fmt.mag_eq (f : Fmt W) (x : BitVec W) : f.mag x = f.magOf (f.code x) := by
  rw [Fmt.mag, Fmt.magOf, Fmt.expField_eq, Fmt.fracField_eq]

theorem Fmt.emask_add_one (f : Fmt W) : f.emask + 1 = 2 ^ f.expBits :=
  Nat.sub_add_cancel Nat.one_le_two_pow

theorem Fmt.infCode_add (f : Fmt W) : f.infCode + 2 ^ f.fracBits = 2 ^ (f.expBits + f.fracBits) := by
  rw [Fmt.infCode, Nat.pow_add, ← f.emask_add_one, Nat.add_mul, Nat.one_mul]

theorem Fmt.infCode_lt (f : Fmt W) : f.infCode < 2 ^ (f.expBits + f.fracBits) := by
  have := f.infCode_add
  have := Nat.two_pow_pos f.fracBits
  omega

theorem Fmt.Regular.width_pred {f : Fmt W} (hf : f.Regular) : W - 1 = f.expBits + f.fracBits :=
  Nat.sub_eq_of_eq_add hf.width

theorem Fmt.Regular.emask_ge {f : Fmt W} (hf : f.Regular) : 3 ≤ f.emask := by
  have : 2 ^ 2 ≤ 2 ^ f.expBits := Nat.pow_le_pow_right (by decide) hf.exp
  have := f.emask_add_one
  omega

theorem Fmt.Regular.emask_eq_bias {f : Fmt W} (hf : f.Regular) : f.emask = 2 * f.bias + 1 := by
  have h : 2 ^ f.expBits = 2 * 2 ^ (f.expBits - 1) := by
    rw [← Nat.pow_succ', Nat.succ_eq_add_one, Nat.sub_add_cancel (by have := hf.exp; omega)]
  have := Nat.two_pow_pos (f.expBits - 1)
  rw [Fmt.emask, Fmt.bias, h]
  omega

theorem Fmt.Regular.two_dvd {f : Fmt W} (hf : f.Regular) : 2 ∣ 2 ^ f.fracBits :=
  dvd_pow_self 2 (by have := hf.frac; omega)

theorem Fmt.Regular.infCode_even {f : Fmt W} (hf : f.Regular) : f.infCode % 2 = 0 :=
  Nat.mod_eq_zero_of_dvd (hf.two_dvd.mul_left _)

theorem Fmt.Regular.infCode_pos {f : Fmt W} (hf : f.Regular) : 0 < f.infCode :=
  Nat.mul_pos (by have := hf.emask_ge; omega) (Nat.two_pow_pos _)

/-- The trailing significand is even exactly when the code is. -/
theorem Fmt.Regular.fracField_mod_two {f : Fmt W} (hf : f.Regular) (x : BitVec W) : f.fracField x % 2 = f.code x % 2 := by
  rw [f.fracField_eq, Nat.mod_mod_of_dvd _ hf.two_dvd]

/-! ### Classes -/

theorem Fmt.expField_eq_emask_iff (f : Fmt W) (x : BitVec W) : f.expField x = f.emask ↔ f.infCode ≤ f.code x := by
  have hlt : f.code x < 2 ^ (f.expBits + f.fracBits) := Nat.mod_lt _ (Nat.two_pow_pos _)
  have hpos := Nat.two_pow_pos f.fracBits
  rw [f.expField_eq, Nat.div_eq_iff hpos, ← Fmt.infCode]
  have := f.infCode_add
  omega

theorem Fmt.isnan_iff (f : Fmt W) (x : BitVec W) : f.isnan x = true ↔ f.infCode < f.code x := by
  have h := f.expField_eq_emask_iff x
  have hd := Nat.div_add_mod' (f.code x) (2 ^ f.fracBits)
  rw [← f.expField_eq, ← f.fracField_eq] at hd
  simp only [Fmt.isnan, Bool.and_eq_true, beq_iff_eq, bne_iff_ne]
  constructor
  · rintro ⟨he, ht⟩
    rw [he, ← Fmt.infCode] at hd
    omega
  · intro hlt
    have he := h.2 hlt.le
    rw [he, ← Fmt.infCode] at hd
    exact ⟨he, by omega⟩

theorem Fmt.isinf_iff (f : Fmt W) (x : BitVec W) : f.isinf x = true ↔ f.code x = f.infCode := by
  have h := f.expField_eq_emask_iff x
  have hd := Nat.div_add_mod' (f.code x) (2 ^ f.fracBits)
  rw [← f.expField_eq, ← f.fracField_eq] at hd
  simp only [Fmt.isinf, Bool.and_eq_true, beq_iff_eq]
  constructor
  · rintro ⟨he, ht⟩
    rw [he, ← Fmt.infCode] at hd
    omega
  · intro heq
    have he := h.2 heq.ge
    rw [he, ← Fmt.infCode] at hd
    exact ⟨he, by omega⟩

theorem Fmt.isnan_eq_false_iff (f : Fmt W) (x : BitVec W) : f.isnan x = false ↔ f.code x ≤ f.infCode := by
  rw [← Bool.not_eq_true, f.isnan_iff, Nat.not_lt]

theorem Fmt.isfinite_iff (f : Fmt W) (x : BitVec W) : f.isfinite x = true ↔ f.code x < f.infCode := by
  have h := f.isinf_iff x
  simp only [Fmt.isfinite, Bool.and_eq_true, Bool.not_eq_true', f.isnan_eq_false_iff, ← Bool.not_eq_true, h]
  omega

theorem Fmt.issubnormal_eq_false_of_le (f : Fmt W) {x : BitVec W} (h : 2 ^ f.fracBits ≤ f.code x) :
    f.issubnormal x = false := by
  have : f.expField x ≠ 0 := by
    rw [f.expField_eq]
    exact (Nat.div_pos h (Nat.two_pow_pos _)).ne'
  simp [Fmt.issubnormal, this]

/-- A zero is the datum of code 0. -/
theorem Fmt.iszero_iff (f : Fmt W) (x : BitVec W) : f.iszero x = true ↔ f.code x = 0 := by
  have hd := Nat.div_add_mod' (f.code x) (2 ^ f.fracBits)
  have := Nat.two_pow_pos f.fracBits
  rw [← f.expField_eq, ← f.fracField_eq] at hd
  simp only [Fmt.iszero, Bool.and_eq_true, beq_iff_eq]
  constructor
  · rintro ⟨he, ht⟩
    simp [← hd, he, ht]
  · intro h
    simp [f.expField_eq, f.fracField_eq, h]

/-! ### Packing -/

theorem Fmt.pack_eq_code (f : Fmt W) (s : Bool) (e t : Nat) : f.pack s e t = f.pack s 0 (e * 2 ^ f.fracBits + t) := by
  simp [Fmt.pack, Nat.add_assoc]

theorem Fmt.Regular.toNat_pack {f : Fmt W} (hf : f.Regular) (s : Bool) {c : Nat} (hc : c < 2 ^ (f.expBits + f.fracBits)) :
    (f.pack s 0 c).toNat = (if s then 2 ^ (f.expBits + f.fracBits) else 0) + c := by
  have hW2 : 2 ^ W = 2 ^ (f.expBits + f.fracBits) + 2 ^ (f.expBits + f.fracBits) := by
    conv_lhs => rw [hf.width, Nat.pow_succ, Nat.mul_two]
  rw [Fmt.pack, BitVec.toNat_ofNat, hf.width_pred, hW2, Nat.zero_mul, Nat.add_zero]
  exact Nat.mod_eq_of_lt (by split_ifs <;> omega)

/-- A packed datum has the code given. -/
theorem Fmt.Regular.code_pack {f : Fmt W} (hf : f.Regular) (s : Bool) {c : Nat} (hc : c < 2 ^ (f.expBits + f.fracBits)) :
    f.code (f.pack s 0 c) = c := by
  rw [Fmt.code, hf.toNat_pack s hc]
  cases s
  · simpa using Nat.mod_eq_of_lt hc
  · simpa using Nat.mod_eq_of_lt hc

/-- A packed datum has the sign given. -/
theorem Fmt.Regular.signbit_pack {f : Fmt W} (hf : f.Regular) (s : Bool) {c : Nat} (hc : c < 2 ^ (f.expBits + f.fracBits)) :
    signbit (f.pack s 0 c) = s := by
  rw [signbit, BitVec.msb_eq_decide, hf.toNat_pack s hc, hf.width_pred]
  cases s
  · simpa using hc
  · simp

theorem Fmt.Regular.code_zero {f : Fmt W} (hf : f.Regular) (s : Bool) : f.code (f.zero s) = 0 :=
  hf.code_pack s (Nat.two_pow_pos _)

theorem Fmt.inf_eq_pack (f : Fmt W) (s : Bool) : f.inf s = f.pack s 0 f.infCode := f.pack_eq_code s _ _

theorem Fmt.Regular.code_inf {f : Fmt W} (hf : f.Regular) (s : Bool) : f.code (f.inf s) = f.infCode := by
  rw [f.inf_eq_pack, hf.code_pack s f.infCode_lt]

theorem Fmt.Regular.maxFinite_eq_pack {f : Fmt W} (hf : f.Regular) (s : Bool) : f.maxFinite s = f.pack s 0 (f.infCode - 1) := by
  have := hf.emask_ge
  have := Nat.two_pow_pos f.fracBits
  rw [Fmt.maxFinite, f.pack_eq_code, Nat.sub_mul, Fmt.infCode]
  have : 1 * 2 ^ f.fracBits ≤ f.emask * 2 ^ f.fracBits := Nat.mul_le_mul_right _ (by omega)
  congr 1
  omega

/-! ### Magnitudes -/

/-- A significand `m` at the exponent of `k` doublings: its code is `k * 2^T + m`, and a carry to `2^(T+1)` goes to the
exponent by itself. -/
theorem Fmt.magOf_code (f : Fmt W) {k m : Nat} (hm : m ≤ 2 ^ (f.fracBits + 1)) (hk : k = 0 ∨ 2 ^ f.fracBits ≤ m) :
    f.magOf (k * 2 ^ f.fracBits + m) = m * 2 ^ k := by
  have hpos := Nat.two_pow_pos f.fracBits
  rw [Nat.pow_succ] at hm
  have hdiv : ∀ j r, r < 2 ^ f.fracBits → (j * 2 ^ f.fracBits + r) / 2 ^ f.fracBits = j ∧
      (j * 2 ^ f.fracBits + r) % 2 ^ f.fracBits = r := by
    intro j r hr
    rw [Nat.add_comm, Nat.add_mul_div_right _ _ hpos, Nat.add_mul_mod_self_right, Nat.div_eq_of_lt hr, Nat.mod_eq_of_lt hr]
    simp
  rw [Fmt.magOf]
  obtain hsub | ⟨r, rfl⟩ : m < 2 ^ f.fracBits ∨ ∃ r, m = 2 ^ f.fracBits + r := by
    by_cases h : m < 2 ^ f.fracBits
    · exact .inl h
    · exact .inr (Nat.exists_eq_add_of_le (by omega))
  · obtain rfl : k = 0 := by omega
    obtain ⟨h1, h2⟩ := hdiv 0 m hsub
    rw [if_pos h1, h2, pow_zero, Nat.mul_one]
  · obtain hr | rfl : r < 2 ^ f.fracBits ∨ r = 2 ^ f.fracBits := by omega
    · obtain ⟨h1, h2⟩ := hdiv (k + 1) r hr
      rw [show k * 2 ^ f.fracBits + (2 ^ f.fracBits + r) = (k + 1) * 2 ^ f.fracBits + r by ring, if_neg (by omega), h1, h2,
        Nat.add_sub_cancel]
    · obtain ⟨h1, h2⟩ := hdiv (k + 2) 0 hpos
      rw [show k * 2 ^ f.fracBits + (2 ^ f.fracBits + 2 ^ f.fracBits) = (k + 2) * 2 ^ f.fracBits + 0 by ring,
        if_neg (by omega), h1, h2, show k + 2 - 1 = k + 1 by omega]
      ring

/-- Every code is a significand at some exponent, with room for one more. -/
theorem Fmt.exists_code (f : Fmt W) (c : Nat) :
    ∃ k m, c = k * 2 ^ f.fracBits + m ∧ m < 2 ^ (f.fracBits + 1) ∧ (k = 0 ∨ 2 ^ f.fracBits ≤ m) := by
  have hpos := Nat.two_pow_pos f.fracBits
  have hmod := Nat.mod_lt c hpos
  have hd := Nat.div_add_mod' c (2 ^ f.fracBits)
  rw [Nat.pow_succ]
  cases he : c / 2 ^ f.fracBits with
  | zero => exact ⟨0, c % 2 ^ f.fracBits, by rw [he] at hd; omega, by omega, .inl rfl⟩
  | succ k =>
    refine ⟨k, 2 ^ f.fracBits + c % 2 ^ f.fracBits, ?_, by omega, .inr (by omega)⟩
    rw [he, Nat.add_mul] at hd
    omega

theorem Fmt.magOf_strictMono (f : Fmt W) : StrictMono f.magOf := by
  refine strictMono_nat_of_lt_succ fun c => ?_
  obtain ⟨k, m, rfl, hm, hk⟩ := f.exists_code c
  rw [f.magOf_code hm.le hk, Nat.add_assoc, f.magOf_code hm (hk.imp_right Nat.le_succ_of_le)]
  exact Nat.mul_lt_mul_of_pos_right m.lt_succ_self (Nat.two_pow_pos k)

theorem Fmt.magOf_zero (f : Fmt W) : f.magOf 0 = 0 := by simp [Fmt.magOf]

theorem Fmt.mag_ne_zero (f : Fmt W) {x : BitVec W} (h : f.iszero x = false) : f.mag x ≠ 0 := by
  have hc : f.code x ≠ 0 := by rw [← Bool.not_eq_true, f.iszero_iff] at h; exact h
  have := f.magOf_strictMono (Nat.pos_of_ne_zero hc)
  rw [f.magOf_zero, ← f.mag_eq] at this
  omega

/-- The value of R134 is the integer of `val` in units of `2^(emin - T)`. -/
theorem Fmt.rat_eq_val (f : Fmt W) (x : BitVec W) : f.rat x = f.val x * (2 : ℚ) ^ f.unit := by
  have hmag : (if f.expField x = 0 then (f.fracField x : ℚ) * 2 ^ (f.emin - f.fracBits)
      else ((2 : ℚ) ^ f.fracBits + f.fracField x) * 2 ^ ((f.expField x : Int) - f.bias - f.fracBits)) =
      f.mag x * (2 : ℚ) ^ f.unit := by
    rw [Fmt.mag]
    split_ifs with he
    · rfl
    · have hu : ((f.expField x : Int) - f.bias - f.fracBits) = ((f.expField x - 1 : Nat) : Int) + f.unit := by
        rw [Fmt.unit, Fmt.emin]
        omega
      rw [hu, zpow_add₀ two_ne_zero, zpow_natCast]
      push_cast
      ring
  rw [Fmt.rat, hmag, Fmt.val]
  split_ifs <;> push_cast <;> ring

end Sys2Proof.Machine
end

section
/-! Rounding (40_fp_semantics.md R135 to R138). The algorithm of R136 finds the code just below a magnitude and where between it
and the next code the magnitude lies; the rounded code is one of the two, held below the limit of R137. As magnitudes rise with
the code, nothing finite lies between the two. -/

namespace Sys2Proof.Machine

/-! ### What is left below the last place -/

/-- Where `y` lies from `lo` to `hi`, with `hi` itself left out: the remainder of R136 against 0 and 1/2. -/
def Tail.Places (t : Tail) (lo hi y : ℝ) : Prop :=
  match t with
  | .exact => y = lo
  | .below => lo < y ∧ 2 * y < lo + hi
  | .half => 2 * y = lo + hi
  | .above => lo + hi < 2 * y ∧ y < hi

theorem Tail.Places.bounds {t : Tail} {lo hi y : ℝ} (h : t.Places lo hi y) (hlt : lo < hi) : lo ≤ y ∧ y < hi := by
  cases t with
  | exact => exact ⟨h.ge, h.trans_lt hlt⟩
  | below => exact ⟨h.1.le, by linarith [h.2]⟩
  | half => simp only [Tail.Places] at h; constructor <;> linarith
  | above => exact ⟨by linarith [h.1], h.2⟩

theorem Tail.Places.mul_right {t : Tail} {lo hi y u : ℝ} (h : t.Places lo hi y) (hu : 0 < u) :
    t.Places (lo * u) (hi * u) (y * u) := by
  cases t with
  | exact => exact congrArg (· * u) h
  | below => exact ⟨mul_lt_mul_of_pos_right h.1 hu, by nlinarith [h.2]⟩
  | half => simp only [Tail.Places] at h ⊢; rw [← add_mul, ← h, mul_assoc]
  | above => exact ⟨by nlinarith [h.1], mul_lt_mul_of_pos_right h.2 hu⟩

/-- The pair is the integer part of `y` with what is left below it. -/
def CutsAt (c : Nat × Tail) (y : ℝ) : Prop := c.2.Places c.1 (c.1 + 1) y

theorem CutsAt.le {c : Nat × Tail} {y : ℝ} (h : CutsAt c y) : (c.1 : ℝ) ≤ y := (h.bounds (lt_add_one _)).1

theorem CutsAt.lt {c : Nat × Tail} {y : ℝ} (h : CutsAt c y) : y < c.1 + 1 := (h.bounds (lt_add_one _)).2

theorem CutsAt.lt_of_lt {c : Nat × Tail} {y : ℝ} (h : CutsAt c y) {n : Nat} (hy : y < n) : c.1 < n := by
  exact_mod_cast h.le.trans_lt hy

theorem CutsAt.le_of_le {c : Nat × Tail} {y : ℝ} (h : CutsAt c y) {n : Nat} (hy : (n : ℝ) ≤ y) : n ≤ c.1 :=
  Nat.lt_succ_iff.1 (by exact_mod_cast hy.trans_lt h.lt)

/-! ### Cutting and measuring a ratio -/

theorem cutsAt_div (n : Nat) {d : Nat} (hd : d ≠ 0) : CutsAt (n / d, tailOf (n % d) d) ((n : ℝ) / d) := by
  have hd' : (0 : ℝ) < d := by exact_mod_cast Nat.pos_of_ne_zero hd
  have hr : n % d < d := Nat.mod_lt _ (Nat.pos_of_ne_zero hd)
  have hy : (n : ℝ) / d = (n / d : Nat) + ((n % d : Nat) : ℝ) / d := by
    rw [div_eq_iff hd'.ne', add_mul, div_mul_cancel₀ _ hd'.ne']
    exact_mod_cast (Nat.div_add_mod' n d).symm
  generalize n % d = r at hr hy ⊢
  generalize n / d = m at hy ⊢
  have hr' : (r : ℝ) / d < 1 := (div_lt_one hd').2 (by exact_mod_cast hr)
  rw [CutsAt, hy, tailOf]
  split_ifs with h0 hb hh
  · simp [Tail.Places, h0]
  · have hpos : (0 : ℝ) < r / d := div_pos (by exact_mod_cast Nat.pos_of_ne_zero h0) hd'
    have hlt : (r : ℝ) / d < 1 / 2 := by rw [div_lt_div_iff₀ hd' two_pos]; exact_mod_cast (by omega)
    constructor <;> linarith
  · have heq : (r : ℝ) / d = 1 / 2 := by rw [div_eq_div_iff hd'.ne' two_ne_zero]; exact_mod_cast (by omega)
    simp only [Tail.Places, heq]
    ring
  · have hgt : 1 / 2 < (r : ℝ) / d := by rw [div_lt_div_iff₀ two_pos hd']; exact_mod_cast (by omega)
    constructor <;> linarith

/-- An integer power of two as a quotient of natural ones. -/
theorem two_zpow_eq_div (i : Int) : (2 : ℝ) ^ i = 2 ^ i.toNat / 2 ^ (-i).toNat := by
  rw [← zpow_natCast, ← zpow_natCast, ← zpow_sub₀ two_ne_zero]
  congr 1
  omega

theorem cutsAt_cutRatio (num : Nat) {den : Nat} (hden : den ≠ 0) (k q : Int) :
    CutsAt (cutRatio num den k q) ((num : ℝ) / den * 2 ^ k / 2 ^ q) := by
  have h := cutsAt_div (num * 2 ^ (k - q).toNat) (Nat.mul_ne_zero hden (Nat.two_pow_pos (q - k).toNat).ne')
  have hq : (2 : ℝ) ^ k / 2 ^ q = 2 ^ (k - q).toNat / 2 ^ (q - k).toNat := by
    rw [← zpow_sub₀ two_ne_zero, two_zpow_eq_div, neg_sub]
  rw [mul_div_assoc, hq, div_mul_div_comm]
  exact_mod_cast h

/-- `floorLog2` is the binary logarithm rounded down. -/
theorem floorLog2_spec {num den : Nat} (hnum : num ≠ 0) (hden : den ≠ 0) (k : Int) :
    (2 : ℝ) ^ floorLog2 num den k ≤ num / den * 2 ^ k ∧ (num : ℝ) / den * 2 ^ k < 2 ^ (floorLog2 num den k + 1) := by
  have hd : (0 : ℝ) < den := by exact_mod_cast Nat.pos_of_ne_zero hden
  have hk : (0 : ℝ) < 2 ^ k := zpow_pos two_pos k
  have hn1 : (2 : ℝ) ^ (num.log2 : Int) ≤ num := by exact_mod_cast Nat.log2_self_le hnum
  have hn2 : (num : ℝ) < 2 ^ ((num.log2 : Int) + 1) := by exact_mod_cast (Nat.lt_log2_self (n := num))
  have hd1 : (2 : ℝ) ^ (den.log2 : Int) ≤ den := by exact_mod_cast Nat.log2_self_le hden
  have hd2 : (den : ℝ) < 2 ^ ((den.log2 : Int) + 1) := by exact_mod_cast (Nat.lt_log2_self (n := den))
  have hup : (num : ℝ) / den < 2 ^ ((num.log2 : Int) - den.log2 + 1) := by
    rw [div_lt_iff₀ hd]
    calc (num : ℝ) < 2 ^ ((num.log2 : Int) - den.log2 + 1) * 2 ^ (den.log2 : Int) := by
          rw [← zpow_add₀ two_ne_zero]; convert hn2 using 2; ring
      _ ≤ _ := by gcongr
  have hlow : (2 : ℝ) ^ ((num.log2 : Int) - den.log2 - 1) ≤ num / den := by
    rw [le_div_iff₀ hd]
    calc _ ≤ (2 : ℝ) ^ ((num.log2 : Int) - den.log2 - 1) * 2 ^ ((den.log2 : Int) + 1) := by gcongr
      _ ≤ num := by rw [← zpow_add₀ two_ne_zero]; convert hn1 using 2; ring
  unfold floorLog2
  generalize (num.log2 : Int) - den.log2 = e at hup hlow
  have htest : den * 2 ^ e.toNat ≤ num * 2 ^ (-e).toNat ↔ (2 : ℝ) ^ e ≤ num / den := by
    rw [two_zpow_eq_div, div_le_div_iff₀ (by positivity) hd, mul_comm ((2 : ℝ) ^ _)]
    exact_mod_cast Iff.rfl
  dsimp only
  split_ifs with h
  · rw [add_right_comm, zpow_add₀ two_ne_zero, zpow_add₀ two_ne_zero (e + 1)]
    exact ⟨by have := htest.1 h; gcongr, by gcongr⟩
  · have hlt : (num : ℝ) / den < 2 ^ e := not_le.1 (mt htest.2 h)
    rw [add_right_comm, sub_add_cancel, zpow_add₀ two_ne_zero, zpow_add₀ two_ne_zero e]
    exact ⟨by gcongr, by gcongr⟩

/-! ### Directions -/

/-- What a rounding mode asks of the magnitude of a number. -/
inductive Direction where
  | down
  | up
  | nearest

/-- The direction of a mode for a sign (R135). -/
def directionOf : RoundingMode → Bool → Direction
  | .tiesToEven, _ => .nearest
  | .towardZero, _ => .down
  | .towardPositive, s => if s then .down else .up
  | .towardNegative, s => if s then .up else .down

/-- The code to round to, just above a magnitude cut to code `c` or `c` itself (R136). -/
def Direction.next (d : Direction) (c : Nat) (t : Tail) : Nat :=
  match d with
  | .down => c
  | .up => if t = .exact then c else c + 1
  | .nearest => if t = .above ∨ t = .half ∧ c % 2 = 1 then c + 1 else c

/-- The largest code a direction gives (R137). -/
def Direction.limit {W : Nat} (d : Direction) (f : Fmt W) : Nat :=
  match d with
  | .down => f.infCode - 1
  | .up => f.infCode
  | .nearest => f.infCode

theorem next_eq_incremented (rm : RoundingMode) (s : Bool) (m : Nat) (t : Tail) :
    (directionOf rm s).next m t = if incremented rm s m t then m + 1 else m := by
  cases rm <;> cases s <;> cases t <;> simp [directionOf, Direction.next, incremented]

theorem Direction.next_le (d : Direction) (c : Nat) (t : Tail) : c ≤ d.next c t ∧ d.next c t ≤ c + 1 := by
  cases d with
  | down => exact ⟨le_rfl, c.le_succ⟩
  | up => simp only [Direction.next]; split_ifs <;> simp
  | nearest => simp only [Direction.next]; split_ifs <;> simp

/-- An even offset moves the rounded code along. -/
theorem Direction.next_add (d : Direction) {a : Nat} (ha : a % 2 = 0) (m : Nat) (t : Tail) :
    d.next (a + m) t = a + d.next m t := by
  have : (a + m) % 2 = m % 2 := by omega
  cases d <;> simp only [Direction.next, this] <;> split_ifs <;> rfl

section
variable {W : Nat}

theorem Direction.limit_bounds (d : Direction) (f : Fmt W) : f.infCode - 1 ≤ d.limit f ∧ d.limit f ≤ f.infCode := by
  cases d <;> simp [Direction.limit]

theorem Fmt.Regular.overflow_eq_pack {f : Fmt W} (hf : f.Regular) (rm : RoundingMode) (s : Bool) :
    f.overflow rm s = f.pack s 0 ((directionOf rm s).limit f) := by
  cases rm <;> cases s <;>
    simp [Fmt.overflow, directionOf, Direction.limit, f.inf_eq_pack, hf.maxFinite_eq_pack]

/-- A datum is below the infinities exactly when its exponent field is below theirs: the overflow of R137 is a limit on codes. -/
theorem Fmt.Regular.overflow_or_pack {f : Fmt W} (hf : f.Regular) (rm : RoundingMode) (s : Bool) {e r : Nat}
    (hr : r < 2 ^ f.fracBits) : (if f.emask ≤ e then f.overflow rm s else f.pack s 0 (e * 2 ^ f.fracBits + r)) =
      f.pack s 0 (Min.min (e * 2 ^ f.fracBits + r) ((directionOf rm s).limit f)) := by
  obtain ⟨hge, hle⟩ := (directionOf rm s).limit_bounds f
  split_ifs with he
  · have : f.infCode ≤ e * 2 ^ f.fracBits := Nat.mul_le_mul_right _ he
    rw [hf.overflow_eq_pack, min_eq_right (by omega)]
  · have : (e + 1) * 2 ^ f.fracBits ≤ f.infCode := Nat.mul_le_mul_right _ (by omega)
    rw [Nat.add_mul] at this
    rw [min_eq_left (by omega)]

/-! ### The algorithm in terms of codes -/

/-- The algorithm of R136 and R137: the significand is cut at `k` doublings of the smallest subnormal and rounded, and the code
this gives is held below the limit. The three ends of the algorithm and its carry are one formula. -/
theorem roundWith_eq_pack {f : Fmt W} (hf : f.Regular) (rm : RoundingMode) (s : Bool) {ex : Int}
    {cut : Int → Nat × Tail} {k m : Nat} {t : Tail} (hk : (ex - f.emin).toNat = k) (hcut : cut (f.unit + k) = (m, t))
    (hm : m < 2 ^ (f.fracBits + 1)) (hn : k = 0 ∨ 2 ^ f.fracBits ≤ m) :
    f.roundWith rm s ex cut =
      f.pack s 0 (min ((directionOf rm s).next (k * 2 ^ f.fracBits + m) t) ((directionOf rm s).limit f)) := by
  have hq : max ex f.emin - (f.fracBits : Int) = f.unit + k := by rw [Fmt.unit]; omega
  have heven : k * 2 ^ f.fracBits % 2 = 0 := Nat.mod_eq_zero_of_dvd (hf.two_dvd.mul_left k)
  obtain ⟨hle, hge⟩ := (directionOf rm s).next_le m t
  rw [Direction.next_add _ heven]
  simp only [Fmt.roundWith, hq, hcut, ← next_eq_incremented]
  generalize (directionOf rm s).next m t = n at hle hge
  have hpos := Nat.two_pow_pos f.fracBits
  have hbias := hf.emask_eq_bias
  have hunit : f.unit + (k : Int) + f.fracBits + f.bias = (k + 1 : Nat) := by rw [Fmt.unit, Fmt.emin]; push_cast; ring
  rw [Nat.pow_succ] at hm ⊢
  by_cases hc : n = 2 ^ f.fracBits * 2
  · -- the carry: the exponent field is one more and the trailing significand zero
    have hcond : (f.emax < f.unit + k + 1 + f.fracBits) ↔ f.emask ≤ k + 2 := by rw [Fmt.emax]; omega
    have hexp : (f.unit + (k : Int) + 1 + f.fracBits + f.bias).toNat = k + 2 := by omega
    have hsum : k * 2 ^ f.fracBits + n = (k + 2) * 2 ^ f.fracBits + 0 := by rw [hc]; ring
    rw [hsum, ← hf.overflow_or_pack rm s hpos]
    simp only [hc, beq_self_eq_true, if_true, hpos.ne', if_false, lt_irrefl, hcond, hexp, Nat.sub_self]
    rw [f.pack_eq_code]
  · simp only [beq_iff_eq, hc, if_false]
    by_cases hsub : n < 2 ^ f.fracBits
    · -- a zero or a subnormal
      obtain rfl : k = 0 := by omega
      have h3 := hf.emask_ge
      have hn0 : (if n = 0 then f.zero s else f.pack s 0 n) = f.pack s 0 n := by split_ifs with h0 <;> simp [Fmt.zero, h0]
      have := hf.overflow_or_pack rm s (e := 0) hsub
      rw [if_neg (by omega)] at this
      simp only [hsub, if_true, hn0]
      simpa using this
    · -- a normal number, its leading one left out
      obtain ⟨r, rfl⟩ := Nat.exists_eq_add_of_le (Nat.not_lt.1 hsub)
      have hcond : (f.emax < f.unit + k + f.fracBits) ↔ f.emask ≤ k + 1 := by rw [Fmt.emax]; omega
      have hexp : (f.unit + (k : Int) + f.fracBits + f.bias).toNat = k + 1 := by omega
      have hsum : k * 2 ^ f.fracBits + (2 ^ f.fracBits + r) = (k + 1) * 2 ^ f.fracBits + r := by ring
      rw [hsum, ← hf.overflow_or_pack rm s (by omega), if_neg (by omega), if_neg hsub, hexp, Nat.add_sub_cancel_left, f.pack_eq_code]
      simp only [hcond]

/-! ### Magnitudes rounded correctly -/

/-- What it is to round the magnitude `a`, in units of `2^(emin - T)`, in a direction: the part of `Rounds` that has no sign. -/
def Fmt.RoundsMag (f : Fmt W) (d : Direction) (a : ℝ) (p : BitVec W) : Prop :=
  match d with
  | .down => f.isfinite p = true ∧ (f.mag p : ℝ) ≤ a ∧ ∀ x, f.isfinite x = true → (f.mag x : ℝ) ≤ a → f.mag x ≤ f.mag p
  | .up => (f.isfinite p = true → a ≤ (f.mag p : ℝ)) ∧
      ∀ x, f.isfinite x = true → a ≤ (f.mag x : ℝ) → f.isfinite p = true ∧ f.mag p ≤ f.mag x
  | .nearest => (f.isfinite p = true ↔ 2 * a < f.magOf (f.infCode - 1) + f.magOf f.infCode) ∧
      (f.isfinite p = true → ∀ x, f.isfinite x = true → |(f.mag p : ℝ) - a| ≤ |(f.mag x : ℝ) - a| ∧
        (f.mag x ≠ f.mag p → |(f.mag p : ℝ) - a| = |(f.mag x : ℝ) - a| → f.fracField p % 2 = 0))

section
variable {f : Fmt W} {c : Nat} {t : Tail} {a : ℝ} {p : BitVec W}

theorem roundsMag_down (hf : f.Regular) (h : t.Places (f.magOf c) (f.magOf (c + 1)) a)
    (hp : f.code p = min c (f.infCode - 1)) : f.RoundsMag .down a p := by
  have hmono := f.magOf_strictMono
  have hpos := hf.infCode_pos
  obtain ⟨hlo, hhi⟩ := h.bounds (by exact_mod_cast hmono c.lt_succ_self)
  refine ⟨f.isfinite_iff p |>.2 (by omega), ?_, fun x hx hxa => ?_⟩
  · refine le_trans ?_ hlo
    rw [f.mag_eq, hp]
    exact_mod_cast hmono.monotone (min_le_left _ _)
  · rw [f.isfinite_iff] at hx
    rw [f.mag_eq, f.mag_eq, hp]
    rw [f.mag_eq] at hxa
    have hxc : f.code x < c + 1 := hmono.lt_iff_lt.1 (by exact_mod_cast hxa.trans_lt hhi)
    exact hmono.monotone (by omega)

theorem roundsMag_up (h : t.Places (f.magOf c) (f.magOf (c + 1)) a)
    (hp : f.code p = min (Direction.up.next c t) f.infCode) : f.RoundsMag .up a p := by
  have hmono := f.magOf_strictMono
  have hlt : (f.magOf c : ℝ) < f.magOf (c + 1) := by exact_mod_cast hmono c.lt_succ_self
  obtain ⟨hlo, hhi⟩ := h.bounds hlt
  have hle : a ≤ f.magOf (Direction.up.next c t) := by
    rw [Direction.next]
    split_ifs with ht
    · subst ht; exact h.le
    · exact hhi.le
  -- the rounded code is the first one whose magnitude reaches `a`
  have hfirst : ∀ j, a ≤ f.magOf j → Direction.up.next c t ≤ j := by
    intro j hj
    rw [Direction.next]
    split_ifs with ht
    · exact hmono.le_iff_le.1 (by exact_mod_cast hlo.trans hj)
    · have hlo' : (f.magOf c : ℝ) < a := by
        cases t with
        | exact => exact absurd rfl ht
        | below => exact h.1
        | half => simp only [Tail.Places] at h; linarith
        | above => linarith [h.1]
      exact hmono.lt_iff_lt.1 (by exact_mod_cast hlo'.trans_le hj)
  simp only [Fmt.RoundsMag, f.isfinite_iff, f.mag_eq, hp]
  refine ⟨fun hfin => ?_, fun x hx hxa => ?_⟩
  · rwa [min_eq_left (by omega)]
  · have := hfirst _ hxa
    exact ⟨by omega, hmono.monotone (by omega)⟩

/-- Rounding to nearest takes the nearer neighbour. -/
theorem Tail.Places.next_nearest {lo hi : ℝ} (h : t.Places lo hi a) (hlt : lo < hi) :
    (Direction.nearest.next c t = c ∧ 2 * a ≤ lo + hi) ∨ (Direction.nearest.next c t = c + 1 ∧ lo + hi ≤ 2 * a) := by
  cases t with
  | exact => simp only [Tail.Places] at h; exact .inl ⟨by simp [Direction.next], by linarith⟩
  | below => exact .inl ⟨by simp [Direction.next], h.2.le⟩
  | half =>
    rcases Nat.mod_two_eq_zero_or_one c with hc | hc
    · exact .inl ⟨by simp [Direction.next, hc], le_of_eq h⟩
    · exact .inr ⟨by simp [Direction.next, hc], ge_of_eq h⟩
  | above => exact .inr ⟨by simp [Direction.next], h.1.le⟩

/-- Halfway, rounding to nearest takes the even neighbour. -/
theorem Tail.Places.next_even {lo hi : ℝ} (h : t.Places lo hi a) (hlt : lo < hi) (htie : 2 * a = lo + hi) :
    Direction.nearest.next c t % 2 = 0 := by
  cases t with
  | exact => simp only [Tail.Places] at h; linarith
  | below => linarith [h.2]
  | half =>
    rcases Nat.mod_two_eq_zero_or_one c with hc | hc
    · simp [Direction.next, hc]
    · simp [Direction.next, hc, Nat.add_mod]
  | above => linarith [h.1]

/-- Of the two neighbours of `a`, the nearer one is at least as near as any number not between them, and strictly nearer than any
but itself when `a` is not halfway. -/
theorem nearest_of_gap {lo hi a v w : ℝ} (hv : (v = lo ∧ lo ≤ a ∧ 2 * a ≤ lo + hi) ∨ (v = hi ∧ a ≤ hi ∧ lo + hi ≤ 2 * a))
    (hlt : lo < hi) (hw : w ≤ lo ∨ hi ≤ w) :
    |v - a| ≤ |w - a| ∧ (w ≠ v → |v - a| = |w - a| → 2 * a = lo + hi) := by
  rcases hv with ⟨rfl, h1, h2⟩ | ⟨rfl, h1, h2⟩ <;> rcases hw with hw | hw
  · rw [abs_of_nonpos (by linarith), abs_of_nonpos (by linarith)]
    exact ⟨by linarith, fun hne heq => absurd (by linarith) hne⟩
  · rw [abs_of_nonpos (by linarith), abs_of_nonneg (by linarith)]
    exact ⟨by linarith, fun _ heq => by linarith⟩
  · rw [abs_of_nonneg (by linarith), abs_of_nonpos (by linarith)]
    exact ⟨by linarith, fun _ heq => by linarith⟩
  · rw [abs_of_nonneg (by linarith), abs_of_nonneg (by linarith)]
    exact ⟨by linarith, fun hne heq => absurd (by linarith) hne⟩

theorem roundsMag_nearest (hf : f.Regular) (h : t.Places (f.magOf c) (f.magOf (c + 1)) a)
    (hp : f.code p = min (Direction.nearest.next c t) f.infCode) : f.RoundsMag .nearest a p := by
  have hmono := f.magOf_strictMono
  have hlt : (f.magOf c : ℝ) < f.magOf (c + 1) := by exact_mod_cast hmono c.lt_succ_self
  have hpos := hf.infCode_pos
  have heven := hf.infCode_even
  obtain ⟨hlo, hhi⟩ := h.bounds hlt
  obtain ⟨hge, hle⟩ := Direction.nearest.next_le c t
  have hnear := h.next_nearest (c := c) hlt
  have htie := h.next_even (c := c) hlt
  simp only [Fmt.RoundsMag, f.isfinite_iff, f.mag_eq, hf.fracField_mod_two, hp]
  refine ⟨?_, fun hfin x hx => ?_⟩
  · have hfinite : min (Direction.nearest.next c t) f.infCode < f.infCode ↔ Direction.nearest.next c t < f.infCode := by omega
    rw [hfinite]
    have hmono' : ∀ {i j : Nat}, i ≤ j → (f.magOf i : ℝ) ≤ f.magOf j := fun hij => by exact_mod_cast hmono.monotone hij
    have hlast : (f.magOf (f.infCode - 1) : ℝ) < f.magOf f.infCode := by exact_mod_cast hmono (by omega)
    rcases lt_trichotomy (c + 1) f.infCode with hc | hc | hc
    · have := hmono' (show c + 1 ≤ f.infCode - 1 by omega)
      exact iff_of_true (by omega) (by linarith)
    · rw [← hc, Nat.add_sub_cancel]
      rcases hnear with ⟨hN, h2⟩ | ⟨hN, h2⟩
      · refine iff_of_true (by omega) (lt_of_le_of_ne h2 fun heq => ?_)
        have := htie heq
        omega
      · exact iff_of_false (by omega) (by linarith)
    · have := hmono' (show f.infCode ≤ c by omega)
      exact iff_of_false (by omega) (by linarith)
  · rw [min_eq_left (by omega)]
    have hw : (f.magOf (f.code x) : ℝ) ≤ f.magOf c ∨ (f.magOf (c + 1) : ℝ) ≤ f.magOf (f.code x) := by
      rcases Nat.lt_or_ge c (f.code x) with hx | hx
      · exact .inr (by exact_mod_cast hmono.monotone hx)
      · exact .inl (by exact_mod_cast hmono.monotone hx)
    have hv : ((f.magOf (Direction.nearest.next c t) : ℝ) = f.magOf c ∧ (f.magOf c : ℝ) ≤ a ∧
          2 * a ≤ f.magOf c + f.magOf (c + 1)) ∨
        ((f.magOf (Direction.nearest.next c t) : ℝ) = f.magOf (c + 1) ∧ a ≤ f.magOf (c + 1) ∧
          (f.magOf c + f.magOf (c + 1) : ℝ) ≤ 2 * a) :=
      hnear.imp (fun ⟨hN, h2⟩ => ⟨by rw [hN], hlo, h2⟩) (fun ⟨hN, h2⟩ => ⟨by rw [hN], hhi.le, h2⟩)
    obtain ⟨hdist, heq⟩ := nearest_of_gap hv hlt hw
    exact ⟨hdist, fun hne he => htie (heq (by exact_mod_cast hne) he)⟩

/-- The code next to a magnitude that a direction names, held below the limit, is the magnitude rounded. -/
theorem roundsMag_of_code (hf : f.Regular) (d : Direction) (h : t.Places (f.magOf c) (f.magOf (c + 1)) a)
    (hp : f.code p = min (d.next c t) (d.limit f)) : f.RoundsMag d a p := by
  cases d with
  | down => exact roundsMag_down hf h hp
  | up => exact roundsMag_up h hp
  | nearest => exact roundsMag_nearest hf h hp

/-! ### The sign put back -/

/-- The value of a datum along the direction of a sign, in units of `2^(emin - T)`. -/
def Fmt.along (f : Fmt W) (s : Bool) (x : BitVec W) : ℝ := if signbit x = s then f.mag x else -(f.mag x : ℝ)

theorem Fmt.rat_eq_along (f : Fmt W) (s : Bool) (x : BitVec W) :
    (f.rat x : ℝ) = (if s then -1 else 1) * (f.along s x * (2 : ℝ) ^ f.unit) := by
  rw [f.rat_eq_val, Fmt.val, Fmt.along]
  push_cast
  cases s <;> cases signbit x <;> simp

theorem Fmt.along_le_mag (f : Fmt W) (s : Bool) (x : BitVec W) : f.along s x ≤ f.mag x := by
  have : (0 : ℝ) ≤ f.mag x := Nat.cast_nonneg _
  unfold Fmt.along
  split_ifs <;> linarith

theorem Fmt.along_eq_mag_of_pos {f : Fmt W} {s : Bool} {x : BitVec W} (h : 0 < f.along s x) : f.along s x = f.mag x := by
  have : (0 : ℝ) ≤ f.mag x := Nat.cast_nonneg _
  unfold Fmt.along at h ⊢
  split_ifs at h ⊢ with hs
  · rfl
  · linarith

theorem Fmt.abs_rat (f : Fmt W) (x : BitVec W) : |(f.rat x : ℝ)| = f.mag x * (2 : ℝ) ^ f.unit := by
  have hU : (0 : ℝ) < 2 ^ f.unit := zpow_pos two_pos _
  rw [f.rat_eq_along (signbit x), Fmt.along, if_pos rfl, abs_mul, abs_of_nonneg (by positivity : (0 : ℝ) ≤ f.mag x * 2 ^ f.unit)]
  cases signbit x <;> simp

/-- Half a unit above the largest finite number is halfway from its code to the next. -/
theorem Fmt.Regular.threshold_eq (hf : f.Regular) :
    2 * (f.threshold : ℝ) = (f.magOf (f.infCode - 1) + f.magOf f.infCode) * (2 : ℝ) ^ f.unit := by
  have hpos := Nat.two_pow_pos f.fracBits
  have hbias := hf.emask_eq_bias
  have h3 := hf.emask_ge
  obtain ⟨k, hk⟩ : ∃ k, f.emask = k + 2 := ⟨f.emask - 2, by omega⟩
  have hinf : f.infCode = k * 2 ^ f.fracBits + 2 ^ (f.fracBits + 1) := by rw [Fmt.infCode, hk]; ring
  have hlast : f.infCode - 1 = k * 2 ^ f.fracBits + (2 ^ (f.fracBits + 1) - 1) := by
    rw [hinf, Nat.add_sub_assoc Nat.one_le_two_pow]
  rw [hlast, hinf, f.magOf_code le_rfl (.inr (by rw [Nat.pow_succ]; omega)),
    f.magOf_code (Nat.sub_le _ _) (.inr (by rw [Nat.pow_succ]; omega))]
  have hexp : f.emax - f.fracBits - 1 = (k : Int) + f.unit + -1 := by rw [Fmt.unit, Fmt.emin, Fmt.emax]; omega
  rw [Fmt.threshold, hexp]
  push_cast [Nat.one_le_two_pow]
  rw [zpow_add₀ two_ne_zero, zpow_add₀ two_ne_zero, zpow_natCast]
  ring

/-- Rounding down, of the data along a sign. -/
theorem Fmt.RoundsMag.down_along (h : f.RoundsMag .down a p) {s : Bool} {x : BitVec W} (hx : f.isfinite x = true)
    (hxa : f.along s x ≤ a) : f.along s x ≤ f.mag p := by
  obtain ⟨-, -, hmax⟩ := h
  rcases le_or_gt (f.along s x) 0 with h0 | h0
  · exact h0.trans (Nat.cast_nonneg _)
  · rw [Fmt.along_eq_mag_of_pos h0] at hxa ⊢
    exact_mod_cast hmax x hx hxa

/-- Rounding up, of the data along a sign. -/
theorem Fmt.RoundsMag.up_along (h : f.RoundsMag .up a p) (ha : 0 < a) {s : Bool} {x : BitVec W} (hx : f.isfinite x = true)
    (hxa : a ≤ f.along s x) : f.isfinite p = true ∧ f.mag p ≤ f.along s x := by
  obtain ⟨-, hmin⟩ := h
  have heq : f.along s x = f.mag x := Fmt.along_eq_mag_of_pos (ha.trans_le hxa)
  rw [heq] at hxa ⊢
  exact_mod_cast hmin x hx hxa

/-- Rounding to nearest, of the data along a sign: one against it is no nearer than the one of its magnitude. -/
theorem Fmt.RoundsMag.nearest_along (h : f.RoundsMag .nearest a p) (ha : 0 < a) (hp : f.isfinite p = true) {s : Bool}
    {x : BitVec W} (hx : f.isfinite x = true) : |(f.mag p : ℝ) - a| ≤ |f.along s x - a| ∧
      (f.along s x ≠ f.mag p → |(f.mag p : ℝ) - a| = |f.along s x - a| → f.fracField p % 2 = 0) := by
  obtain ⟨hdist, htie⟩ := h.2 hp x hx
  have h0 : (0 : ℝ) ≤ f.mag x := Nat.cast_nonneg _
  by_cases hs : signbit x = s
  · rw [Fmt.along, if_pos hs]
    exact ⟨hdist, fun hne => htie (by exact_mod_cast hne)⟩
  · rw [Fmt.along, if_neg hs, abs_of_neg (by linarith : -(f.mag x : ℝ) - a < 0)]
    have hle : |(f.mag x : ℝ) - a| ≤ f.mag x + a := abs_le.2 ⟨by linarith, by linarith⟩
    refine ⟨by linarith, fun hne heq => htie (fun hxp => hne ?_) (le_antisymm hdist (by linarith))⟩
    have hx0 : (f.mag x : ℝ) = 0 := by
      rcases abs_cases ((f.mag x : ℝ) - a) with ⟨h1, -⟩ | ⟨h1, -⟩ <;> linarith
    rw [← hxp, hx0, neg_zero]

/-- Rounding the magnitude in the direction of the mode is rounding the number. -/
theorem Fmt.Regular.rounds_of_roundsMag (hf : f.Regular) {rm : RoundingMode} {s : Bool} (ha : 0 < a)
    (hnan : f.isnan p = false) (hs : signbit p = s) (h : f.RoundsMag (directionOf rm s) a p) :
    f.Rounds rm ((if s then -1 else 1) * (a * (2 : ℝ) ^ f.unit)) p := by
  have hU : (0 : ℝ) < 2 ^ f.unit := zpow_pos two_pos _
  have hpa : f.along s p = f.mag p := if_pos hs
  have hr : |(if s then -1 else 1) * (a * (2 : ℝ) ^ f.unit)| = a * 2 ^ f.unit := by
    rw [abs_mul, abs_of_pos (mul_pos ha hU)]
    cases s <;> simp
  refine ⟨hnan, ?_, ?_⟩
  · have := mul_pos ha hU
    cases s <;> simp [hs] <;> linarith
  simp only [f.abs_rat, hr]
  simp only [f.rat_eq_along s, hpa]
  cases rm with
  | tiesToEven =>
    have hth : a * (2 : ℝ) ^ f.unit < f.threshold ↔ 2 * a < f.magOf (f.infCode - 1) + f.magOf f.infCode := by
      rw [← mul_lt_mul_iff_of_pos_left (zero_lt_two' ℝ), hf.threshold_eq, ← mul_assoc, mul_lt_mul_iff_of_pos_right hU]
    have hdist : ∀ u v : ℝ, |(if s = true then -1 else 1) * (u * (2 : ℝ) ^ f.unit) -
        (if s = true then -1 else 1) * (v * 2 ^ f.unit)| = |u - v| * 2 ^ f.unit := by
      intro u v
      rw [← mul_sub, ← sub_mul, abs_mul, abs_mul, abs_of_pos hU]
      cases s <;> simp
    refine ⟨h.1.trans hth.symm, fun hp x hx => ?_⟩
    obtain ⟨hle, htie⟩ := h.nearest_along ha hp (s := s) hx
    rw [hdist, hdist]
    refine ⟨by gcongr, fun hne heq => htie (fun hpx => hne ?_) (mul_right_cancel₀ hU.ne' heq)⟩
    have : (f.rat x : ℝ) = f.rat p := by rw [f.rat_eq_along s, f.rat_eq_along s, hpx, hpa]
    exact_mod_cast this
  | towardPositive =>
    cases s with
    | false =>
      simp only [Bool.false_eq_true, if_false, one_mul, mul_le_mul_iff_of_pos_right hU]
      exact ⟨h.1, fun x hx hxa => h.up_along ha hx hxa⟩
    | true =>
      simp only [if_true, neg_mul, one_mul, neg_le_neg_iff, mul_le_mul_iff_of_pos_right hU]
      exact ⟨fun _ => h.2.1, fun x hx hxa => ⟨h.1, h.down_along hx hxa⟩⟩
  | towardNegative =>
    cases s with
    | false =>
      simp only [Bool.false_eq_true, if_false, one_mul, mul_le_mul_iff_of_pos_right hU]
      exact ⟨fun _ => h.2.1, fun x hx hxa => ⟨h.1, h.down_along hx hxa⟩⟩
    | true =>
      simp only [if_true, neg_mul, one_mul, neg_le_neg_iff, mul_le_mul_iff_of_pos_right hU]
      exact ⟨h.1, fun x hx hxa => h.up_along ha hx hxa⟩
  | towardZero =>
    simp only [mul_le_mul_iff_of_pos_right hU]
    exact_mod_cast h

end

/-- The algorithm of R136 and R137 rounds correctly every positive number of which `ex` is the binary logarithm and `cut` cuts
the quotients, with either sign. -/
theorem roundWith_rounds {f : Fmt W} (hf : f.Regular) (rm : RoundingMode) (s : Bool) {r : ℝ} {ex : Int} {cut : Int → Nat × Tail}
    (hlo : (2 : ℝ) ^ ex ≤ r) (hhi : r < 2 ^ (ex + 1)) (hcut : ∀ q, CutsAt (cut q) (r / 2 ^ q)) :
    f.Rounds rm ((if s then -1 else 1) * r) (f.roundWith rm s ex cut) := by
  obtain ⟨k, hk⟩ : ∃ k, (ex - f.emin).toNat = k := ⟨_, rfl⟩
  obtain ⟨⟨m, t⟩, hc⟩ : ∃ c, cut (f.unit + k) = c := ⟨_, rfl⟩
  have hy : CutsAt (m, t) (r / 2 ^ (f.unit + (k : Int))) := hc ▸ hcut _
  have hpow : ∀ i : Int, (0 : ℝ) < 2 ^ i := zpow_pos two_pos
  have hm : m < 2 ^ (f.fracBits + 1) := by
    refine hy.lt_of_lt ?_
    rw [div_lt_iff₀ (hpow _)]
    refine hhi.trans_le ?_
    push_cast
    rw [← zpow_natCast, ← zpow_add₀ two_ne_zero]
    exact zpow_le_zpow_right₀ one_le_two (by rw [Fmt.unit]; push_cast; omega)
  have hn : k = 0 ∨ 2 ^ f.fracBits ≤ m := by
    refine or_iff_not_imp_left.2 fun hk0 => hy.le_of_le ?_
    rw [le_div_iff₀ (hpow _)]
    refine le_trans ?_ hlo
    push_cast
    rw [← zpow_natCast, ← zpow_add₀ two_ne_zero]
    exact zpow_le_zpow_right₀ one_le_two (by rw [Fmt.unit]; omega)
  have hplaces : t.Places (f.magOf (k * 2 ^ f.fracBits + m)) (f.magOf (k * 2 ^ f.fracBits + m + 1)) (r / 2 ^ f.unit) := by
    rw [f.magOf_code hm.le hn, Nat.add_assoc, f.magOf_code hm (hn.imp_right Nat.le_succ_of_le)]
    have h := hy.mul_right (hpow k)
    rw [zpow_add₀ two_ne_zero, ← div_div, div_mul_cancel₀ _ (hpow k).ne'] at h
    exact_mod_cast h
  rw [roundWith_eq_pack hf rm s hk hc hm hn]
  have hlt : min ((directionOf rm s).next (k * 2 ^ f.fracBits + m) t) ((directionOf rm s).limit f) <
      2 ^ (f.expBits + f.fracBits) :=
    (min_le_right _ _).trans_lt (((directionOf rm s).limit_bounds f).2.trans_lt f.infCode_lt)
  have hcode := hf.code_pack s hlt
  have hnan : f.isnan (f.pack s 0 _) = false :=
    (f.isnan_eq_false_iff _).2 (by rw [hcode]; exact (min_le_right _ _).trans ((directionOf rm s).limit_bounds f).2)
  have h := hf.rounds_of_roundsMag (rm := rm) (div_pos ((hpow ex).trans_le hlo) (hpow f.unit)) hnan (hf.signbit_pack s hlt)
    (roundsMag_of_code hf _ hplaces hcode)
  rwa [div_mul_cancel₀ _ (hpow f.unit).ne'] at h

/-- The rounding of a ratio (R136). -/
theorem roundRatio_rounds {f : Fmt W} (hf : f.Regular) (rm : RoundingMode) (s : Bool) {num den : Nat} (k : Int) (hnum : num ≠ 0)
    (hden : den ≠ 0) : f.Rounds rm ((if s then -1 else 1) * ((num : ℝ) / den * (2 : ℝ) ^ k)) (f.roundRatio rm s num den k) :=
  roundWith_rounds hf rm s (floorLog2_spec hnum hden k).1 (floorLog2_spec hnum hden k).2 (cutsAt_cutRatio num hden k)

end

/-- Settles O58: the algorithm rounds every non-zero ratio correctly, and both formats are regular. -/
theorem roundingIsCorrect : Obligations.RoundingIsCorrect := fun rm neg _ _ k hnum hden =>
  ⟨roundRatio_rounds binary32_regular rm neg k hnum hden, roundRatio_rounds binary64_regular rm neg k hnum hden⟩

end Sys2Proof.Machine
end

section
/-! The square root (40_fp_semantics.md R155): the integer square root found bit by bit, and the cut it gives. -/

namespace Sys2Proof.Machine

theorem isqrtFrom_spec (n : Nat) (b r : Nat) (hlo : r * r ≤ n) (hhi : n < (r + 2 ^ b) * (r + 2 ^ b)) :
    isqrtFrom n b r * isqrtFrom n b r ≤ n ∧ n < (isqrtFrom n b r + 1) * (isqrtFrom n b r + 1) := by
  induction b generalizing r with
  | zero => exact ⟨hlo, hhi⟩
  | succ b ih =>
    rw [isqrtFrom]
    split_ifs with h
    · exact ih _ h (by rwa [Nat.add_assoc, ← Nat.mul_two, ← Nat.pow_succ])
    · exact ih _ hlo (Nat.not_le.1 h)

/-- `isqrt` is the square root rounded down. -/
theorem isqrt_spec (n : Nat) : isqrt n * isqrt n ≤ n ∧ n < (isqrt n + 1) * (isqrt n + 1) := by
  refine isqrtFrom_spec n _ 0 (Nat.zero_le n) ?_
  rw [Nat.zero_add, ← Nat.pow_add]
  exact Nat.lt_log2_self.trans_le (Nat.pow_le_pow_right two_pos (by omega))

theorem cutsAt_cutSqrt (x : Nat) (k q : Int) : CutsAt (cutSqrt x k q) (√((x : ℝ) * 2 ^ k) / 2 ^ q) := by
  have hX : (0 : ℝ) ≤ (x : ℝ) * 2 ^ k := by positivity
  have hy0 : 0 ≤ √((x : ℝ) * 2 ^ k) / 2 ^ q := by positivity
  have hsq : (√((x : ℝ) * 2 ^ k) / 2 ^ q) ^ 2 * (2 ^ (2 * q - k).toNat : Nat) = (x * 2 ^ (k - 2 * q).toNat : Nat) := by
    have hpow : ((2 : ℝ) ^ q) ^ 2 = 2 ^ (2 * q) := by rw [← zpow_natCast, ← zpow_mul, mul_comm q]; rfl
    have hk : (2 : ℝ) ^ k / 2 ^ (2 * q) = 2 ^ (k - 2 * q).toNat / 2 ^ (2 * q - k).toNat := by
      rw [← zpow_sub₀ two_ne_zero, two_zpow_eq_div, neg_sub]
    rw [div_pow, Real.sq_sqrt hX, hpow, mul_div_assoc, hk]
    push_cast
    field_simp
  unfold cutSqrt
  generalize √((x : ℝ) * 2 ^ k) / 2 ^ q = y at hy0 hsq ⊢
  generalize x * 2 ^ (k - 2 * q).toNat = n at hsq ⊢
  have hd : 0 < 2 ^ (2 * q - k).toNat := Nat.two_pow_pos _
  generalize 2 ^ (2 * q - k).toNat = d at hsq hd ⊢
  obtain ⟨hlo, hhi⟩ := isqrt_spec (n / d)
  dsimp only
  generalize isqrt (n / d) = m at hlo hhi ⊢
  have hlo' : m * m * d ≤ n := (Nat.le_div_iff_mul_le hd).1 hlo
  have hhi' : n < (m + 1) * (m + 1) * d := (Nat.div_lt_iff_lt_mul hd).1 hhi
  have hd' : (0 : ℝ) < d := by exact_mod_cast hd
  -- comparing `2 * y` with an integer is comparing `4 * n` with its square times `d`
  have hcmp : ∀ j : Nat, (4 * n < j * j * d ↔ 2 * y < j) ∧ (j * j * d < 4 * n ↔ (j : ℝ) < 2 * y) := by
    intro j
    have h4 : (4 * n : ℝ) = (2 * y) ^ 2 * d := by rw [← hsq]; ring
    have hj : (j * j * d : ℝ) = (j : ℝ) ^ 2 * d := by ring
    have hlt : (4 * n : ℝ) < j * j * d ↔ 2 * y < j := by
      rw [h4, hj, mul_lt_mul_iff_of_pos_right hd', sq_lt_sq₀ (by positivity) (Nat.cast_nonneg j)]
    have hgt : (j * j * d : ℝ) < 4 * n ↔ j < 2 * y := by
      rw [h4, hj, mul_lt_mul_iff_of_pos_right hd', sq_lt_sq₀ (Nat.cast_nonneg j) (by positivity)]
    exact ⟨by rw [← hlt]; norm_cast, by rw [← hgt]; norm_cast⟩
  obtain ⟨h1, h2⟩ := hcmp (2 * m)
  obtain ⟨h3, h4⟩ := hcmp (2 * m + 1)
  obtain ⟨h5, -⟩ := hcmp (2 * m + 2)
  have hm4 : 2 * m * (2 * m) * d = 4 * (m * m * d) := by ring
  have hm5 : (2 * m + 2) * (2 * m + 2) * d = 4 * ((m + 1) * (m + 1) * d) := by ring
  have hy5 := h5.1 (by omega)
  push_cast at h1 h2 h3 h4 hy5
  rw [CutsAt]
  split_ifs with heq hb hh <;> simp only [Tail.Places]
  · have := mt h1.2 (by omega)
    have := mt h2.2 (by omega)
    linarith
  · have := h2.1 (by omega)
    have := h3.1 hb
    constructor <;> linarith
  · have := mt h3.2 (by omega)
    have := mt h4.2 (by omega)
    linarith
  · have := h4.1 (by omega)
    constructor <;> linarith

/-- The rounding of a square root (R155). -/
theorem roundSqrt_rounds {W : Nat} {f : Fmt W} (hf : f.Regular) (rm : RoundingMode) {x : Nat} (hx : x ≠ 0) (k : Int) :
    f.Rounds rm (√((x : ℝ) * 2 ^ k)) (f.roundWith rm false ((floorLog2 x 1 k).fdiv 2) (cutSqrt x k)) := by
  obtain ⟨hlo, hhi⟩ := floorLog2_spec hx one_ne_zero k
  rw [Nat.cast_one, div_one] at hlo hhi
  rw [Int.fdiv_eq_ediv_of_nonneg _ (by decide)]
  have hsq : ∀ e : Int, ((2 : ℝ) ^ e) ^ 2 = 2 ^ (2 * e) := fun e => by rw [← zpow_natCast, ← zpow_mul, mul_comm e]; rfl
  have h := roundWith_rounds hf rm false (r := √((x : ℝ) * 2 ^ k)) (ex := floorLog2 x 1 k / 2) (cut := cutSqrt x k) ?_ ?_
    (cutsAt_cutSqrt x k)
  · simpa using h
  · rw [Real.le_sqrt' (by positivity), hsq]
    exact (zpow_le_zpow_right₀ one_le_two (by omega)).trans hlo
  · rw [Real.sqrt_lt' (by positivity), hsq]
    exact hhi.trans_le (zpow_le_zpow_right₀ one_le_two (by omega))

end Sys2Proof.Machine
end

section
/-! The classes of results (40_fp_semantics.md R141 to R148): a NaN result is quiet, the IEEE functions give no NaN but by the
default one, and flushing leaves no subnormal. -/

namespace Sys2Proof.Machine

variable {W : Nat} {f : Fmt W}

/-- No signaling NaN, and under flushing no subnormal. -/
def Fmt.Tidy (f : Fmt W) (flushing : Bool) (z : BitVec W) : Prop :=
  f.issignaling z = false ∧ (flushing = true → f.issubnormal z = false)

/-! ### NaN results -/

theorem Fmt.Regular.issignaling_eq (hf : f.Regular) (x : BitVec W) :
    f.issignaling x = (f.isnan x && !(f.fracField x).testBit (f.fracBits - 1)) := by
  have hlt : f.fracBits - 1 < f.fracBits := Nat.sub_lt hf.frac Nat.one_pos
  rw [Fmt.issignaling, Fmt.fracField, Nat.testBit_mod_two_pow, decide_eq_true hlt, Bool.true_and, BitVec.testBit_toNat]

theorem Fmt.issignaling_of_isnan {x : BitVec W} (h : f.isnan x = false) : f.issignaling x = false := by
  simp [Fmt.issignaling, h]

theorem Fmt.Regular.two_pow_le_infCode (hf : f.Regular) : 2 ^ f.fracBits ≤ f.infCode :=
  Nat.le_mul_of_pos_left _ (by have := hf.emask_ge; omega)

/-- No NaN is subnormal. -/
theorem Fmt.Regular.issubnormal_of_isnan (hf : f.Regular) {x : BitVec W} (h : f.isnan x = true) : f.issubnormal x = false :=
  f.issubnormal_eq_false_of_le (hf.two_pow_le_infCode.trans ((f.isnan_iff x).1 h).le)

/-- `canonicalize_nan` only sets a bit of the code. -/
theorem Fmt.code_le_code_quiet (f : Fmt W) (x : BitVec W) : f.code x ≤ f.code (f.quiet x) := by
  rw [Fmt.code, Fmt.code, Fmt.quiet, BitVec.toNat_or, Nat.or_mod_two_pow]
  exact Nat.left_le_or

theorem Fmt.Regular.quiet_tidy (hf : f.Regular) (flushing : Bool) {x : BitVec W} (h : f.isnan x = true) :
    f.Tidy flushing (f.quiet x) := by
  have hlt : f.fracBits - 1 < W := by have := hf.width; omega
  refine ⟨?_, fun _ => hf.issubnormal_of_isnan ((f.isnan_iff _).2 (((f.isnan_iff x).1 h).trans_le (f.code_le_code_quiet x)))⟩
  rw [Fmt.issignaling, Fmt.quiet, BitVec.getLsbD_or, BitVec.getLsbD_ofNat, Nat.testBit_two_pow_self, decide_eq_true hlt]
  simp

theorem Fmt.Regular.defaultNaN_tidy (hf : f.Regular) (flushing : Bool) (n : Nat) : f.Tidy flushing (f.defaultNaN n) := by
  have hlt : 2 ^ (f.fracBits - 1) < 2 ^ f.fracBits := Nat.pow_lt_pow_right one_lt_two (Nat.sub_lt hf.frac Nat.one_pos)
  have hpos := Nat.two_pow_pos (f.fracBits - 1)
  have hcode : f.code (f.defaultNaN n) = f.infCode + 2 ^ (f.fracBits - 1) := by
    have := f.infCode_add
    rw [Fmt.defaultNaN, f.pack_eq_code]
    exact hf.code_pack _ (by rw [← Fmt.infCode]; omega)
  have hfrac : f.fracField (f.defaultNaN n) = 2 ^ (f.fracBits - 1) := by
    rw [f.fracField_eq, hcode, Fmt.infCode, Nat.mul_add_mod_self_right, Nat.mod_eq_of_lt hlt]
  refine ⟨?_, fun _ => hf.issubnormal_of_isnan ((f.isnan_iff _).2 (by omega))⟩
  rw [hf.issignaling_eq, hfrac, Nat.testBit_two_pow_self, Bool.not_true, Bool.and_false]

theorem Fmt.Regular.propagateNaN_tidy (hf : f.Regular) (flushing : Bool) (n : Nat) {x y : BitVec W}
    (h : (f.isnan x || f.isnan y) = true) : f.Tidy flushing (f.propagateNaN n x y) := by
  rw [Fmt.propagateNaN]
  split_ifs with hx hy hd
  · rw [Bool.not_eq_true'] at hx
    rw [hx, Bool.false_or] at h
    exact hf.quiet_tidy _ h
  · exact hf.quiet_tidy _ (by simpa using hx)
  · exact hf.quiet_tidy _ (by simpa using hx)
  · exact hf.quiet_tidy _ (by simpa using hy)

/-! ### Results that are no NaN -/

theorem Fmt.Regular.isnan_zero (hf : f.Regular) (s : Bool) : f.isnan (f.zero s) = false :=
  (f.isnan_eq_false_iff _).2 (by rw [hf.code_zero]; exact Nat.zero_le _)

theorem Fmt.Regular.isnan_inf (hf : f.Regular) (s : Bool) : f.isnan (f.inf s) = false :=
  (f.isnan_eq_false_iff _).2 (hf.code_inf s).le

/-- Negation keeps the code. -/
theorem Fmt.Regular.code_fpNegate (hf : f.Regular) (x : BitVec W) : f.code (fpNegate x) = f.code x := by
  have hW : f.expBits + f.fracBits < W := by have := hf.width; omega
  rw [Fmt.code, Fmt.code, fpNegate, BitVec.toNat_xor, BitVec.toNat_ofNat, hf.width_pred, Nat.xor_mod_two_pow,
    Nat.mod_eq_of_lt (Nat.pow_lt_pow_right one_lt_two hW), Nat.mod_self, Nat.xor_zero]

theorem Fmt.Regular.isnan_fpNegate (hf : f.Regular) {x : BitVec W} (h : f.isnan x = false) : f.isnan (fpNegate x) = false := by
  rw [f.isnan_eq_false_iff] at h ⊢
  rwa [hf.code_fpNegate]

theorem Fmt.Regular.isnan_roundRatio (hf : f.Regular) (rm : RoundingMode) (s : Bool) {num den : Nat} (k : Int)
    (hnum : num ≠ 0) (hden : den ≠ 0) : f.isnan (f.roundRatio rm s num den k) = false :=
  (roundRatio_rounds hf rm s k hnum hden).1

theorem Fmt.Regular.isnan_addition (hf : f.Regular) {rm : RoundingMode} {x y r : BitVec W} (hx : f.isnan x = false)
    (hy : f.isnan y = false) (h : f.addition rm x y = some r) : f.isnan r = false := by
  unfold Fmt.addition Fmt.roundSum at h
  split_ifs at h with h1 h2 h3 hz h4 <;> cases h
  · exact hx
  · exact hy
  · exact hf.isnan_roundRatio rm _ _ (Int.natAbs_ne_zero.2 hz) one_ne_zero
  · exact hx
  · exact hf.isnan_zero _

theorem Fmt.Regular.isnan_subtraction (hf : f.Regular) {rm : RoundingMode} {x y r : BitVec W} (hx : f.isnan x = false)
    (hy : f.isnan y = false) (h : f.subtraction rm x y = some r) : f.isnan r = false :=
  hf.isnan_addition hx (hf.isnan_fpNegate hy) h

theorem Fmt.Regular.isnan_multiplication (hf : f.Regular) {rm : RoundingMode} {x y r : BitVec W}
    (h : f.multiplication rm x y = some r) : f.isnan r = false := by
  unfold Fmt.multiplication at h
  dsimp only at h
  split_ifs at h with h1 h2 h3 <;> cases h
  · exact hf.isnan_inf _
  · exact hf.isnan_zero _
  · simp only [Bool.or_eq_true, not_or, Bool.not_eq_true] at h3
    exact hf.isnan_roundRatio rm _ _ (Nat.mul_ne_zero (f.mag_ne_zero h3.1) (f.mag_ne_zero h3.2)) one_ne_zero

theorem Fmt.Regular.isnan_division (hf : f.Regular) {rm : RoundingMode} {x y r : BitVec W}
    (h : f.division rm x y = some r) : f.isnan r = false := by
  unfold Fmt.division at h
  dsimp only at h
  split_ifs at h with h1 h2 h3 h4 h5 h6 <;> cases h
  · exact hf.isnan_inf _
  · exact hf.isnan_zero _
  · exact hf.isnan_inf _
  · exact hf.isnan_zero _
  · exact hf.isnan_roundRatio rm _ _ (f.mag_ne_zero (by simpa using h6)) (f.mag_ne_zero (by simpa using h5))

theorem Fmt.Regular.isnan_squareRoot (hf : f.Regular) {rm : RoundingMode} {x r : BitVec W} (hx : f.isnan x = false)
    (h : f.squareRoot rm x = some r) : f.isnan r = false := by
  unfold Fmt.squareRoot at h
  split_ifs at h with h1 h2 h3 <;> cases h
  · exact hx
  · exact hx
  · exact (roundSqrt_rounds hf rm (f.mag_ne_zero (by simpa using h1)) f.unit).1

theorem Fmt.Regular.isnan_lesser (hf : f.Regular) {x y : BitVec W} (hx : f.isnan x = false) (hy : f.isnan y = false) :
    f.isnan (f.lesser x y) = false := by
  unfold Fmt.lesser
  split_ifs
  exacts [hf.isnan_zero _, hx, hy]

theorem Fmt.Regular.isnan_greater (hf : f.Regular) {x y : BitVec W} (hx : f.isnan x = false) (hy : f.isnan y = false) :
    f.isnan (f.greater x y) = false := by
  unfold Fmt.greater
  split_ifs
  exacts [hf.isnan_zero _, hx, hy]

/-! ### Flushing and the wrappers -/

theorem Fmt.Regular.isnan_flush (hf : f.Regular) (flushing : Bool) {x : BitVec W} (h : f.isnan x = false) :
    f.isnan (f.flush flushing x) = false := by
  unfold Fmt.flush
  split_ifs
  exacts [hf.isnan_zero _, h]

theorem Fmt.Regular.issubnormal_zero (hf : f.Regular) (s : Bool) : f.issubnormal (f.zero s) = false := by
  simp [Fmt.issubnormal, f.fracField_eq, hf.code_zero]

/-- A datum that is no NaN is tidy when flushed. -/
theorem Fmt.Regular.flush_tidy (hf : f.Regular) (flushing : Bool) {x : BitVec W} (h : f.isnan x = false) :
    f.Tidy flushing (f.flush flushing x) := by
  refine ⟨Fmt.issignaling_of_isnan (hf.isnan_flush flushing h), ?_⟩
  rintro rfl
  unfold Fmt.flush
  split_ifs with hsub
  · exact hf.issubnormal_zero _
  · simpa using hsub

theorem Fmt.Regular.wrapUnary_tidy (hf : f.Regular) {func : BitVec W → Option (BitVec W)}
    (hfunc : ∀ x r, f.isnan x = false → func x = some r → f.isnan r = false) (flushing : Bool) (n : Nat) (x : BitVec W) :
    f.Tidy flushing (f.wrapUnary flushing func n x) := by
  unfold Fmt.wrapUnary
  split_ifs with hx
  · exact hf.quiet_tidy flushing hx
  · rw [Bool.not_eq_true] at hx
    cases hr : func (f.flush flushing x) with
    | some r => exact hf.flush_tidy flushing (hfunc _ _ (hf.isnan_flush flushing hx) hr)
    | none => exact hf.defaultNaN_tidy flushing n

theorem Fmt.Regular.wrapBinary_tidy (hf : f.Regular) {func : BitVec W → BitVec W → Option (BitVec W)}
    (hfunc : ∀ x y r, f.isnan x = false → f.isnan y = false → func x y = some r → f.isnan r = false)
    (flushing : Bool) (n : Nat) (x y : BitVec W) : f.Tidy flushing (f.wrapBinary flushing func n x y) := by
  unfold Fmt.wrapBinary
  split_ifs with hxy
  · exact hf.propagateNaN_tidy flushing n hxy
  · simp only [Bool.or_eq_true, not_or, Bool.not_eq_true] at hxy
    obtain ⟨hx, hy⟩ := hxy
    cases hr : func (f.flush flushing x) (f.flush flushing y) with
    | some r => exact hf.flush_tidy flushing (hfunc _ _ _ (hf.isnan_flush flushing hx) (hf.isnan_flush flushing hy) hr)
    | none => exact hf.defaultNaN_tidy flushing n

theorem Fmt.Regular.issignaling_min (hf : f.Regular) (n : Nat) (x y : BitVec W) : f.issignaling (f.min n x y) = false := by
  unfold Fmt.min
  split_ifs with hxy
  · exact (hf.propagateNaN_tidy false n hxy).1
  · simp only [Bool.or_eq_true, not_or, Bool.not_eq_true] at hxy
    exact Fmt.issignaling_of_isnan (hf.isnan_lesser hxy.1 hxy.2)

theorem Fmt.Regular.issignaling_max (hf : f.Regular) (n : Nat) (x y : BitVec W) : f.issignaling (f.max n x y) = false := by
  unfold Fmt.max
  split_ifs with hxy
  · exact (hf.propagateNaN_tidy false n hxy).1
  · simp only [Bool.or_eq_true, not_or, Bool.not_eq_true] at hxy
    exact Fmt.issignaling_of_isnan (hf.isnan_greater hxy.1 hxy.2)

end Sys2Proof.Machine
end

section
/-! Lane by lane: a statement whose lanes draw completes, and each lane is the function of the lanes of its operands (00_scope.md
R15, R16, R145). -/

namespace Sys2Proof.Machine

variable {W L : Nat}

/-- A statement of one operand whose lanes draw, given what its function does on a lane. -/
theorem unaryLanes_of_draw {mk : Ident → VOperand → Instr} {F : Params → Nat → BitVec W → BitVec W}
    {R : Params → BitVec W → BitVec W → Prop} (hW : 0 < W) (hL : W * L ≤ 128)
    (hexec : ∀ s d a, exec (mk d a) s = drawUnary s d L a (lanewiseDraw1 s.params.laneMapping W (F s.params)))
    (hR : ∀ p n x, R p x (F p n x)) : UnaryLanes W L L mk R := by
  intro s d a va ha hd
  rw [hexec]
  refine execDraw_completes (read_of_holds kV128_lawful ha) hd fun i hi => ?_
  rw [lane_lanewiseDraw1 _ _ _ _ hW ((Nat.mul_le_mul_left W hi).trans hL)]
  exact hR _ _ _

/-- A statement of two operands whose lanes draw, given what its function does on a lane. -/
theorem binaryLanes_of_draw {mk : Ident → VOperand → VOperand → Instr} {F : Params → Nat → BitVec W → BitVec W → BitVec W}
    {R : Params → BitVec W → BitVec W → BitVec W → Prop} (hW : 0 < W) (hL : W * L ≤ 128)
    (hexec : ∀ s d a b, exec (mk d a b) s = drawBinary s d L a b (lanewiseDraw2 s.params.laneMapping W (F s.params)))
    (hR : ∀ p n x y, R p x y (F p n x y)) : BinaryLanes W L L mk R := by
  intro s d a b va vb ha hb hd
  rw [hexec]
  refine execDraw_completes (both_of (read_of_holds kV128_lawful ha) (read_of_holds kV128_lawful hb)) hd fun i hi => ?_
  rw [lane_lanewiseDraw2 _ _ _ _ _ hW ((Nat.mul_le_mul_left W hi).trans hL)]
  exact hR _ _ _ _

section
variable {f : Fmt W}

/-- A wrapped operation of one operand in a rounding mode gives tidy lanes. -/
theorem wrapUnaryLanes_tidy (hf : f.Regular) (hW : 0 < W ∧ W * L ≤ 128) {op : RoundingMode → BitVec W → Option (BitVec W)}
    (hop : ∀ {rm x r}, f.isnan x = false → op rm x = some r → f.isnan r = false)
    {mk : Ident → VOperand → RoundingMode → Instr} (hexec : ∀ s d a rm, exec (mk d a rm) s =
      drawUnary s d L a (lanewiseDraw1 s.params.laneMapping W (f.wrapUnary s.params.flushSubnormals (op rm))))
    (rm : RoundingMode) : UnaryLanes W L L (fun d a => mk d a rm) fun p _ z =>
      f.issignaling z = false ∧ (p.flushSubnormals = true → f.issubnormal z = false) :=
  unaryLanes_of_draw (F := fun p => f.wrapUnary p.flushSubnormals (op rm)) hW.1 hW.2 (fun s d a => hexec s d a rm)
    fun p => hf.wrapUnary_tidy (fun _ _ => hop) p.flushSubnormals

/-- A wrapped operation of two operands in a rounding mode gives tidy lanes. -/
theorem wrapBinaryLanes_tidy (hf : f.Regular) (hW : 0 < W ∧ W * L ≤ 128)
    {op : RoundingMode → BitVec W → BitVec W → Option (BitVec W)}
    (hop : ∀ {rm x y r}, f.isnan x = false → f.isnan y = false → op rm x y = some r → f.isnan r = false)
    {mk : Ident → VOperand → VOperand → RoundingMode → Instr} (hexec : ∀ s d a b rm, exec (mk d a b rm) s =
      drawBinary s d L a b (lanewiseDraw2 s.params.laneMapping W (f.wrapBinary s.params.flushSubnormals (op rm))))
    (rm : RoundingMode) : BinaryLanes W L L (fun d a b => mk d a b rm) fun p _ _ z =>
      f.issignaling z = false ∧ (p.flushSubnormals = true → f.issubnormal z = false) :=
  binaryLanes_of_draw (F := fun p => f.wrapBinary p.flushSubnormals (op rm)) hW.1 hW.2 (fun s d a b => hexec s d a b rm)
    fun p => hf.wrapBinary_tidy (fun _ _ _ => hop) p.flushSubnormals

/-- Minima have no signaling lane. -/
theorem minLanes_issignaling (hf : f.Regular) (hW : 0 < W ∧ W * L ≤ 128) {mk : Ident → VOperand → VOperand → Instr}
    (hexec : ∀ s d a b, exec (mk d a b) s = drawBinary s d L a b (lanewiseDraw2 s.params.laneMapping W f.min)) :
    BinaryLanes W L L mk fun _ _ _ z => f.issignaling z = false :=
  binaryLanes_of_draw (F := fun _ => f.min) hW.1 hW.2 hexec fun _ => hf.issignaling_min

/-- Maxima have no signaling lane. -/
theorem maxLanes_issignaling (hf : f.Regular) (hW : 0 < W ∧ W * L ≤ 128) {mk : Ident → VOperand → VOperand → Instr}
    (hexec : ∀ s d a b, exec (mk d a b) s = drawBinary s d L a b (lanewiseDraw2 s.params.laneMapping W f.max)) :
    BinaryLanes W L L mk fun _ _ _ z => f.issignaling z = false :=
  binaryLanes_of_draw (F := fun _ => f.max) hW.1 hW.2 hexec fun _ => hf.issignaling_max

end

/-- Settles O59: the wrappers give tidy lanes whatever the operation, as each operation gives a NaN only by the default one;
minimum and maximum give a quieted NaN, an operand that is no NaN, or a zero. -/
theorem arithmeticLaneClasses : Obligations.ArithmeticLaneClasses := by
  have h32 := binary32_regular
  have h64 := binary64_regular
  have w32 : 0 < 32 ∧ 32 * 4 ≤ 128 := by decide
  have w64 : 0 < 64 ∧ 64 * 2 ≤ 128 := by decide
  refine ⟨?add32, ?add64, ?sub32, ?sub64, ?mul32, ?mul64, ?div32, ?div64, ?sqrt32, ?sqrt64, ?min32, ?min64, ?max32, ?max64⟩
  case add32 => exact wrapBinaryLanes_tidy h32 w32 h32.isnan_addition fun _ _ _ _ _ => rfl
  case add64 => exact wrapBinaryLanes_tidy h64 w64 h64.isnan_addition fun _ _ _ _ _ => rfl
  case sub32 => exact wrapBinaryLanes_tidy h32 w32 h32.isnan_subtraction fun _ _ _ _ _ => rfl
  case sub64 => exact wrapBinaryLanes_tidy h64 w64 h64.isnan_subtraction fun _ _ _ _ _ => rfl
  case mul32 => exact wrapBinaryLanes_tidy h32 w32 (fun _ _ => h32.isnan_multiplication) fun _ _ _ _ _ => rfl
  case mul64 => exact wrapBinaryLanes_tidy h64 w64 (fun _ _ => h64.isnan_multiplication) fun _ _ _ _ _ => rfl
  case div32 => exact wrapBinaryLanes_tidy h32 w32 (fun _ _ => h32.isnan_division) fun _ _ _ _ _ => rfl
  case div64 => exact wrapBinaryLanes_tidy h64 w64 (fun _ _ => h64.isnan_division) fun _ _ _ _ _ => rfl
  case sqrt32 => exact wrapUnaryLanes_tidy h32 w32 h32.isnan_squareRoot fun _ _ _ _ => rfl
  case sqrt64 => exact wrapUnaryLanes_tidy h64 w64 h64.isnan_squareRoot fun _ _ _ _ => rfl
  case min32 => exact minLanes_issignaling h32 w32 fun _ _ _ _ => rfl
  case min64 => exact minLanes_issignaling h64 w64 fun _ _ _ _ => rfl
  case max32 => exact maxLanes_issignaling h32 w32 fun _ _ _ _ => rfl
  case max64 => exact maxLanes_issignaling h64 w64 fun _ _ _ _ => rfl

end Sys2Proof.Machine
end

section
/-! Vectors constructed lane by lane (41_construct.md R200, R201): each shape of `build` and `splat` proved once, for every width,
number of lanes and kind, given that the instruction means it. -/

namespace Sys2Proof.Machine

variable {W L : Nat}

/-- A lane of a vector made of exactly `L` patterns that fit it (00_scope.md R11). -/
theorem lane_ofLanes_toList (m : LaneMapping) (ps : Lanes (BitVec W) L) (hL : W * L ≤ 128) (i : Fin L) :
    lane m W (ofLanes m ps.toList) i.val = ps.at i := by
  have hi : i.val < ps.toList.length := by rw [ps.size]; exact i.isLt
  rw [lane_ofLanes m _ ((Nat.mul_le_mul_left W i.isLt).trans hL), ← List.getElem_eq_getD (h := hi), Lanes.getElem_toList]

/-! ### The shapes -/

/-- The elements are read as the values they hold, and the vector made of them has them as its lanes. -/
theorem buildPatterns_lanes {k : Kind (BitVec W) (BitVec W)} (hk : k.Lawful) (hL : W * L ≤ 128)
    {mk : Ident → Lanes (Operand (BitVec W)) L → Instr} (hexec : ∀ s d x, exec (mk d x) s = buildPatterns s d k x) :
    BuildsPatterns L k mk := by
  intro s d x vx hx hd
  rw [hexec]
  exact exec1_completes (readArray_of_holds hk hx) hd (lane_ofLanes_toList _ vx hL)

/-- A boolean vector is the list of its lanes (10_state.md R36), so the elements read are the result. -/
theorem buildBooleans_lanes {k : Kind (Lanes Bool L) (Lanes Bool L)} {mk : Ident → Lanes (Operand Bool) L → Instr}
    (hexec : ∀ s d x, exec (mk d x) s = buildBooleans s d k x) : BuildsBooleans k mk := by
  intro s d x vx hx hd
  rw [hexec]
  exact exec1_completes (readArray_of_holds kBool_lawful hx) hd fun _ => rfl

/-- The vector made lane by lane from one pattern has it in each of the lanes that fit. -/
theorem splatPattern_lanes {k : Kind (BitVec W) (BitVec W)} (hk : k.Lawful) (hW : 0 < W) (hL : W * L ≤ 128)
    {mk : Ident → Operand (BitVec W) → Instr} (hexec : ∀ s d x, exec (mk d x) s = splatPattern s d k x) :
    SplatsPattern L k mk := by
  intro s d x vx hx hd
  rw [hexec]
  refine exec1_completes (read_of_holds hk hx) hd fun i hi => ?_
  exact lane_buildLanes _ _ hW ((Nat.mul_le_mul_left W hi).trans hL)

/-- Copies of one boolean are that boolean in every lane. -/
theorem splatBoolean_lanes {k : Kind (Lanes Bool L) (Lanes Bool L)} {mk : Ident → Operand Bool → Instr}
    (hexec : ∀ s d x, exec (mk d x) s = splatBoolean s d k x) : SplatsBoolean k mk := by
  intro s d x vx hx hd
  rw [hexec]
  exact exec1_completes (read_of_holds kBool_lawful hx) hd (Lanes.at_replicate vx)

/-! ### The statements -/

/-- Settles O20: each of the six is the shape at its kind, and its lanes fill the 128 bits. -/
theorem buildPatternLanes : Obligations.BuildPatternLanes := by
  refine ⟨?i8, ?i16, ?i32, ?i64, ?f32, ?f64⟩
  case i8 => exact buildPatterns_lanes kI8_lawful (by decide) fun _ _ _ => rfl
  case i16 => exact buildPatterns_lanes kI16_lawful (by decide) fun _ _ _ => rfl
  case i32 => exact buildPatterns_lanes kI32_lawful (by decide) fun _ _ _ => rfl
  case i64 => exact buildPatterns_lanes kI64_lawful (by decide) fun _ _ _ => rfl
  case f32 => exact buildPatterns_lanes kF32_lawful (by decide) fun _ _ _ => rfl
  case f64 => exact buildPatterns_lanes kF64_lawful (by decide) fun _ _ _ => rfl

/-- Settles O21: each of the four is the shape at its kind. -/
theorem buildBooleanLanes : Obligations.BuildBooleanLanes := by
  refine ⟨?b8, ?b16, ?b32, ?b64⟩
  case b8 => exact buildBooleans_lanes fun _ _ _ => rfl
  case b16 => exact buildBooleans_lanes fun _ _ _ => rfl
  case b32 => exact buildBooleans_lanes fun _ _ _ => rfl
  case b64 => exact buildBooleans_lanes fun _ _ _ => rfl

/-- Settles O22: the six numerical splats are one shape at their kinds, the four boolean ones the other. -/
theorem splatLanes : Obligations.SplatLanes := by
  refine ⟨?i8, ?i16, ?i32, ?i64, ?f32, ?f64, ?b8, ?b16, ?b32, ?b64⟩
  case i8 => exact splatPattern_lanes kI8_lawful (by decide) (by decide) fun _ _ _ => rfl
  case i16 => exact splatPattern_lanes kI16_lawful (by decide) (by decide) fun _ _ _ => rfl
  case i32 => exact splatPattern_lanes kI32_lawful (by decide) (by decide) fun _ _ _ => rfl
  case i64 => exact splatPattern_lanes kI64_lawful (by decide) (by decide) fun _ _ _ => rfl
  case f32 => exact splatPattern_lanes kF32_lawful (by decide) (by decide) fun _ _ _ => rfl
  case f64 => exact splatPattern_lanes kF64_lawful (by decide) (by decide) fun _ _ _ => rfl
  case b8 => exact splatBoolean_lanes fun _ _ _ => rfl
  case b16 => exact splatBoolean_lanes fun _ _ _ => rfl
  case b32 => exact splatBoolean_lanes fun _ _ _ => rfl
  case b64 => exact splatBoolean_lanes fun _ _ _ => rfl

end Sys2Proof.Machine
end

section
/-! Access to lanes (42_lane_access.md R230 to R234): each shape of `extractLane`, `replaceLane`, `select`, `swizzle` and `shuffle`
proved once, for every width, number of lanes and kind, given that the instruction means it. -/

namespace Sys2Proof.Machine

variable {W L : Nat}

/-- Each of `L` lanes that fit the vector together ends within it. -/
theorem lane_end_le (hL : W * L ≤ 128) (i : Fin L) : W * (i.val + 1) ≤ 128 :=
  (Nat.mul_le_mul_left W i.isLt).trans hL

/-! ### The shapes -/

/-- The result is the lane at its own width, so nothing of it is widened. -/
theorem extractPattern_lane {k : Kind (BitVec W) (BitVec W)} {mk : Ident → VOperand → Fin L → Instr}
    (hexec : ∀ s d a i, exec (mk d a i) s = extractPattern s d k a i) : ExtractsPattern k mk := by
  intro s d a i va ha hd
  rw [hexec]
  exact exec1_completes (read_of_holds kV128_lawful ha) hd rfl

/-- A boolean vector is the list of its lanes (10_state.md R36), and one of them is the result. -/
theorem extractBoolean_lane {k : Kind (Lanes Bool L) (Lanes Bool L)} (hk : k.Lawful)
    {mk : Ident → Operand (Lanes Bool L) → Fin L → Instr}
    (hexec : ∀ s d a i, exec (mk d a i) s = extractBoolean s d k a i) : ExtractsBoolean k mk := by
  intro s d a i va ha hd
  rw [hexec]
  exact exec1_completes (read_of_holds hk ha) hd rfl

/-- The operands are read before the destination is written, so that it may be the operand slot; of the lanes only the one
named is set. -/
theorem replacePattern_lanes {k : Kind (BitVec W) (BitVec W)} (hk : k.Lawful) (hW : 0 < W) (hL : W * L ≤ 128)
    {mk : Ident → VOperand → Fin L → Operand (BitVec W) → Instr}
    (hexec : ∀ s d a i x, exec (mk d a i x) s = replacePattern s d k a i x) : ReplacesPattern k mk := by
  intro s d a i x va vx ha hx hd
  rw [hexec]
  refine exec1_completes (both_of (read_of_holds kV128_lawful ha) (read_of_holds hk hx)) hd fun j => ?_
  rw [lane_setlane _ va i.val j.val vx hW (lane_end_le hL j)]
  simp only [Fin.ext_iff]

/-- The same for the list of booleans that a boolean vector is. -/
theorem replaceBoolean_lanes {k : Kind (Lanes Bool L) (Lanes Bool L)} (hk : k.Lawful)
    {mk : Ident → Operand (Lanes Bool L) → Fin L → Operand Bool → Instr}
    (hexec : ∀ s d a i x, exec (mk d a i x) s = replaceBoolean s d k a i x) : ReplacesBoolean k mk := by
  intro s d a i x va vx ha hx hd
  rw [hexec]
  exact exec1_completes (both_of (read_of_holds hk ha) (read_of_holds kBool_lawful hx)) hd fun j => va.at_set i j vx

/-- The selector and both vectors are read, and each lane is one of the two. -/
theorem select_lanes {k : Kind (Lanes Bool L) (Lanes Bool L)} (hk : k.Lawful) (hW : 0 < W) (hL : W * L ≤ 128)
    {mk : Ident → Operand (Lanes Bool L) → VOperand → VOperand → Instr}
    (hexec : ∀ s d c t f, exec (mk d c t f) s = ternary s d k c t f (selectLanes s.params.laneMapping W)) :
    SelectsLanes W k mk := by
  intro s d c t f vc vt vf hc ht hf hd
  have hreads := both_of (read_of_holds hk hc) (both_of (read_of_holds kV128_lawful ht) (read_of_holds kV128_lawful hf))
  rw [hexec]
  exact exec1_completes hreads hd fun i => lane_selectLanes _ W vc vt vf i hW (lane_end_le hL i)

/-- One operand is read, and only the lanes of the result have to fit: an index has no value that names no lane (R233). -/
theorem swizzle_lanes (hL : W * L ≤ 128) {mk : Ident → VOperand → Lanes (Fin L) L → Instr}
    (hexec : ∀ s d a c, exec (mk d a c) s = unary s d a fun v => swizzleLanes s.params.laneMapping W v c) :
    Swizzles W mk := by
  intro s d a c va ha hd
  rw [hexec]
  exact exec1_completes (read_of_holds kV128_lawful ha) hd fun i => lane_swizzleLanes _ W va c i (lane_end_le hL i)

/-- The same with two vectors, the indices of the second following those of the first. -/
theorem shuffle_lanes {N : Nat} (hL : W * L ≤ 128) {mk : Ident → VOperand → VOperand → Lanes (Fin N) L → Instr}
    (hexec : ∀ s d a b c, exec (mk d a b c) s =
      binary s d a b fun v w => shuffleLanes s.params.laneMapping W L v w c) : Shuffles W L mk := by
  intro s d a b c va vb ha hb hd
  rw [hexec]
  exact exec1_completes (both_of (read_of_holds kV128_lawful ha) (read_of_holds kV128_lawful hb)) hd fun i =>
    lane_shuffleLanes _ W L va vb c i (lane_end_le hL i)

/-! ### The statements -/

/-- Settles O23: the six numerical extractions are one shape at their kinds, the four boolean ones the other. -/
theorem extractedLane : Obligations.ExtractedLane := by
  refine ⟨?i8, ?i16, ?i32, ?i64, ?f32, ?f64, ?b8, ?b16, ?b32, ?b64⟩
  case i8 => exact extractPattern_lane fun _ _ _ _ => rfl
  case i16 => exact extractPattern_lane fun _ _ _ _ => rfl
  case i32 => exact extractPattern_lane fun _ _ _ _ => rfl
  case i64 => exact extractPattern_lane fun _ _ _ _ => rfl
  case f32 => exact extractPattern_lane fun _ _ _ _ => rfl
  case f64 => exact extractPattern_lane fun _ _ _ _ => rfl
  case b8 => exact extractBoolean_lane kB8x16_lawful fun _ _ _ _ => rfl
  case b16 => exact extractBoolean_lane kB16x8_lawful fun _ _ _ _ => rfl
  case b32 => exact extractBoolean_lane kB32x4_lawful fun _ _ _ _ => rfl
  case b64 => exact extractBoolean_lane kB64x2_lawful fun _ _ _ _ => rfl

/-- Settles O24: the six numerical replacements are one shape at their kinds, the four boolean ones the other. -/
theorem replacedLane : Obligations.ReplacedLane := by
  refine ⟨?i8, ?i16, ?i32, ?i64, ?f32, ?f64, ?b8, ?b16, ?b32, ?b64⟩
  case i8 => exact replacePattern_lanes kI8_lawful (by decide) (by decide) fun _ _ _ _ _ => rfl
  case i16 => exact replacePattern_lanes kI16_lawful (by decide) (by decide) fun _ _ _ _ _ => rfl
  case i32 => exact replacePattern_lanes kI32_lawful (by decide) (by decide) fun _ _ _ _ _ => rfl
  case i64 => exact replacePattern_lanes kI64_lawful (by decide) (by decide) fun _ _ _ _ _ => rfl
  case f32 => exact replacePattern_lanes kF32_lawful (by decide) (by decide) fun _ _ _ _ _ => rfl
  case f64 => exact replacePattern_lanes kF64_lawful (by decide) (by decide) fun _ _ _ _ _ => rfl
  case b8 => exact replaceBoolean_lanes kB8x16_lawful fun _ _ _ _ _ => rfl
  case b16 => exact replaceBoolean_lanes kB16x8_lawful fun _ _ _ _ _ => rfl
  case b32 => exact replaceBoolean_lanes kB32x4_lawful fun _ _ _ _ _ => rfl
  case b64 => exact replaceBoolean_lanes kB64x2_lawful fun _ _ _ _ _ => rfl

/-- Settles O25: each of the four is the shape at its width, and its lanes fill the 128 bits. -/
theorem selectedLanes : Obligations.SelectedLanes := by
  refine ⟨?w8, ?w16, ?w32, ?w64⟩
  case w8 => exact select_lanes kB8x16_lawful (by decide) (by decide) fun _ _ _ _ _ => rfl
  case w16 => exact select_lanes kB16x8_lawful (by decide) (by decide) fun _ _ _ _ _ => rfl
  case w32 => exact select_lanes kB32x4_lawful (by decide) (by decide) fun _ _ _ _ _ => rfl
  case w64 => exact select_lanes kB64x2_lawful (by decide) (by decide) fun _ _ _ _ _ => rfl

/-- Settles O26: each of the four is the shape at its width. -/
theorem swizzledLanes : Obligations.SwizzledLanes := by
  refine ⟨?w8, ?w16, ?w32, ?w64⟩
  case w8 => exact swizzle_lanes (by decide) fun _ _ _ _ => rfl
  case w16 => exact swizzle_lanes (by decide) fun _ _ _ _ => rfl
  case w32 => exact swizzle_lanes (by decide) fun _ _ _ _ => rfl
  case w64 => exact swizzle_lanes (by decide) fun _ _ _ _ => rfl

/-- Settles O27: each of the four is the shape at its width, with as many indices again for the second vector. -/
theorem shuffledLanes : Obligations.ShuffledLanes := by
  refine ⟨?w8, ?w16, ?w32, ?w64⟩
  case w8 => exact shuffle_lanes (by decide) fun _ _ _ _ _ => rfl
  case w16 => exact shuffle_lanes (by decide) fun _ _ _ _ _ => rfl
  case w32 => exact shuffle_lanes (by decide) fun _ _ _ _ _ => rfl
  case w64 => exact shuffle_lanes (by decide) fun _ _ _ _ _ => rfl

end Sys2Proof.Machine
end

section
/-! Integer arithmetic lane by lane (43_int_arith.md R270 to R279): what each lane function gives as a number, for every width, and
the shapes of the statements that apply one to every lane. -/

namespace Sys2Proof.Machine

variable {W L : Nat}

/-! ### Narrowing and clamping -/

theorem toNat_reduce (z : Int) : ((reduce W z).toNat : Int) = z % 2 ^ W := by
  have hnonneg : 0 ≤ z % 2 ^ W := Int.emod_nonneg z (by positivity)
  simp [reduce, hnonneg]

theorem toNat_reduce_natCast (n : Nat) : (reduce W n).toNat = n % 2 ^ W := by
  have h := toNat_reduce (W := W) n
  exact_mod_cast h

theorem toNat_reduce_of_range {z : Int} (hlo : 0 ≤ z) (hhi : z ≤ 2 ^ W - 1) : ((reduce W z).toNat : Int) = z := by
  rw [toNat_reduce, Int.emod_eq_of_lt hlo (by omega)]

theorem toInt_reduce_of_range (hW : 0 < W) {z : Int} (hlo : -(2 ^ (W - 1)) ≤ z) (hhi : z ≤ 2 ^ (W - 1) - 1) :
    (reduce W z).toInt = z :=
  BitVec.toInt_ofInt_eq_self hW hlo (by omega)

theorem saturate_eq_max_min {lo hi : Int} (h : lo ≤ hi) (z : Int) : saturate lo hi z = max lo (min hi z) := by
  unfold saturate
  split_ifs <;> omega

/-- Clamping keeps the exact result in the signed range, so that storing it loses nothing (R275). -/
theorem toInt_saturateS (hW : 0 < W) (z : Int) :
    (saturateS W z).toInt = max (-(2 ^ (W - 1))) (min (2 ^ (W - 1) - 1) z) := by
  have hpos : (0 : Int) < 2 ^ (W - 1) := by positivity
  rw [saturateS, saturate_eq_max_min (by omega), toInt_reduce_of_range hW (by omega) (by omega)]

/-- The same for the unsigned range. -/
theorem toNat_saturateU (z : Int) : ((saturateU W z).toNat : Int) = max 0 (min (2 ^ W - 1) z) := by
  have hpos : (0 : Int) < 2 ^ W := by positivity
  rw [saturateU, saturate_eq_max_min (by omega), toNat_reduce_of_range (by omega) (by omega)]

/-! ### Wrapping lane functions -/

theorem toNat_wrapAdd (x y : BitVec W) : (wrapAdd x y).toNat = (x.toNat + y.toNat) % 2 ^ W := by
  rw [wrapAdd, uint, uint, ← Nat.cast_add, toNat_reduce_natCast]

/-- The difference may be negative; its residue modulo `2^W` is not (R272). -/
theorem toNat_wrapSub (x y : BitVec W) : ((wrapSub x y).toNat : Int) = ((x.toNat : Int) - y.toNat) % 2 ^ W :=
  toNat_reduce _

theorem toNat_wrapMul (x y : BitVec W) : (wrapMul x y).toNat = (x.toNat * y.toNat) % 2 ^ W := by
  rw [wrapMul, uint, uint, ← Nat.cast_mul, toNat_reduce_natCast]

/-- The two readings of a pattern differ by a multiple of `2^W` (10_state.md R40, R41). -/
theorem toInt_modEq_toNat (x : BitVec W) : x.toInt ≡ x.toNat [ZMOD 2 ^ W] := by
  rw [BitVec.toInt_eq_toNat_bmod, Int.ModEq]
  exact_mod_cast Int.bmod_emod

/-- Hence a product modulo `2^W` does not depend on the reading (R273). -/
theorem toNat_wrapMul_signed (x y : BitVec W) : ((wrapMul x y).toNat : Int) = (x.toInt * y.toInt) % 2 ^ W :=
  (toNat_reduce _).trans ((toInt_modEq_toNat x).mul (toInt_modEq_toNat y)).symm

theorem wrapMul_readings (x y : BitVec W) : (wrapMul x y).toNat = (x.toNat * y.toNat) % 2 ^ W ∧
    ((wrapMul x y).toNat : Int) = (x.toInt * y.toInt) % 2 ^ W :=
  ⟨toNat_wrapMul x y, toNat_wrapMul_signed x y⟩

/-- Negation of the exact integer, moved up by the modulus to stay a natural number (R274). -/
theorem toNat_wrapNeg (x : BitVec W) : (wrapNeg x).toNat = (2 ^ W - x.toNat) % 2 ^ W := by
  zify [x.isLt.le]
  rw [wrapNeg, toNat_reduce, uint, sub_eq_add_neg (2 ^ W : Int), Int.add_emod_left, zero_sub]

/-! ### Saturating lane functions -/

theorem toInt_addSatS (hW : 0 < W) (x y : BitVec W) :
    (addSatS x y).toInt = max (-(2 ^ (W - 1))) (min (2 ^ (W - 1) - 1) (x.toInt + y.toInt)) :=
  toInt_saturateS hW _

theorem toNat_addSatU (x y : BitVec W) :
    ((addSatU x y).toNat : Int) = max 0 (min (2 ^ W - 1) ((x.toNat : Int) + y.toNat)) :=
  toNat_saturateU _

theorem toInt_subSatS (hW : 0 < W) (x y : BitVec W) :
    (subSatS x y).toInt = max (-(2 ^ (W - 1))) (min (2 ^ (W - 1) - 1) (x.toInt - y.toInt)) :=
  toInt_saturateS hW _

theorem toNat_subSatU (x y : BitVec W) :
    ((subSatU x y).toNat : Int) = max 0 (min (2 ^ W - 1) ((x.toNat : Int) - y.toNat)) :=
  toNat_saturateU _

/-! ### Shifted lanes -/

theorem toNat_shiftLeft (n : Nat) (x : BitVec W) : (shiftLeft n x).toNat = (x.toNat * 2 ^ n) % 2 ^ W := by
  have h := toNat_reduce_natCast (W := W) (x.toNat * 2 ^ n)
  exact_mod_cast h

/-- The floor of an unsigned quotient is the quotient of natural numbers, which is no larger than the lane (R279). -/
theorem toNat_shiftRightU (n : Nat) (x : BitVec W) : (shiftRightU n x).toNat = x.toNat / 2 ^ n := by
  have hlt : x.toNat / 2 ^ n < 2 ^ W := (Nat.div_le_self _ _).trans_lt x.isLt
  have hfloor : (uint x).fdiv (2 ^ n) = (x.toNat / 2 ^ n : Nat) := by
    rw [Int.fdiv_eq_ediv_of_nonneg _ (by positivity), uint]
    norm_cast
  rw [shiftRightU, hfloor, toNat_reduce_natCast, Nat.mod_eq_of_lt hlt]

/-- The floor of a signed quotient is what the arithmetic shift of bit vectors gives (R279). -/
theorem shiftRightS_eq_sshiftRight (n : Nat) (x : BitVec W) : shiftRightS n x = x.sshiftRight n := by
  rw [shiftRightS, sint, Int.fdiv_eq_ediv_of_nonneg _ (by positivity), BitVec.sshiftRight, Int.shiftRight_eq_div_pow, reduce]
  norm_cast

theorem toInt_shiftRightS (n : Nat) (x : BitVec W) : (shiftRightS n x).toInt = x.toInt / 2 ^ n := by
  rw [shiftRightS_eq_sshiftRight, BitVec.toInt_sshiftRight, Int.shiftRight_eq_div_pow]
  norm_cast

/-! ### The shapes -/

/-- A statement of one operand, given what its function does on a lane (00_scope.md R15). -/
theorem unaryLanes_of_lanewise {mk : Ident → VOperand → Instr} {f : BitVec W → BitVec W}
    {R : Params → BitVec W → BitVec W → Prop} (hR : ∀ p x, R p x (f x)) (hW : 0 < W) (hL : W * L ≤ 128)
    (hexec : ∀ s d a, exec (mk d a) s = unary s d a (lanewise1 s.params.laneMapping W f)) : UnaryLanes W L 0 mk R := by
  intro s d a va ha hd
  rw [hexec]
  refine exec1_completes (read_of_holds kV128_lawful ha) hd fun i hi => ?_
  rw [lane_lanewise1 _ _ _ hW ((Nat.mul_le_mul_left W hi).trans hL)]
  exact hR _ _

/-- A statement of two operands, given what its function does on two lanes (R16). -/
theorem binaryLanes_of_lanewise {mk : Ident → VOperand → VOperand → Instr} {f : BitVec W → BitVec W → BitVec W}
    {R : Params → BitVec W → BitVec W → BitVec W → Prop} (hR : ∀ p x y, R p x y (f x y)) (hW : 0 < W) (hL : W * L ≤ 128)
    (hexec : ∀ s d a b, exec (mk d a b) s = binary s d a b (lanewise2 s.params.laneMapping W f)) :
    BinaryLanes W L 0 mk R := by
  intro s d a b va vb ha hb hd
  rw [hexec]
  refine exec1_completes (both_of (read_of_holds kV128_lawful ha) (read_of_holds kV128_lawful hb)) hd fun i hi => ?_
  rw [lane_lanewise2 _ _ _ _ hW ((Nat.mul_le_mul_left W hi).trans hL)]
  exact hR _ _ _

/-- A shift, given what its function does on a lane: one amount, taken modulo the width, serves every lane (R278, R279). -/
theorem shiftLanes_of_lanewise {mk : Ident → VOperand → Operand (BitVec 8) → Instr} {f : Nat → BitVec W → BitVec W}
    {R : BitVec W → BitVec 8 → BitVec W → Prop} (hR : ∀ x (y : BitVec 8), R x y (f (y.toNat % W) x)) (hW : 0 < W)
    (hL : W * L ≤ 128) (hexec : ∀ s d a y, exec (mk d a y) s = shift s d a y W f) : ShiftLanes W L mk R := by
  intro s d a y va vy ha hy hd
  rw [hexec]
  refine exec1_completes (both_of (read_of_holds kV128_lawful ha) (read_of_holds kI8_lawful hy)) hd fun i hi => ?_
  rw [lane_lanewise1 _ _ _ hW ((Nat.mul_le_mul_left W hi).trans hL)]
  exact hR _ vy

/-! ### The statements -/

/-- Settles O28: the sum of the unsigned readings is narrowed to the lane. -/
theorem integerAddWraps : Obligations.IntegerAddWraps := by
  refine ⟨?w8, ?w16, ?w32, ?w64⟩
  case w8 => exact binaryLanes_of_lanewise (fun _ => toNat_wrapAdd) (by decide) (by decide) fun _ _ _ _ => rfl
  case w16 => exact binaryLanes_of_lanewise (fun _ => toNat_wrapAdd) (by decide) (by decide) fun _ _ _ _ => rfl
  case w32 => exact binaryLanes_of_lanewise (fun _ => toNat_wrapAdd) (by decide) (by decide) fun _ _ _ _ => rfl
  case w64 => exact binaryLanes_of_lanewise (fun _ => toNat_wrapAdd) (by decide) (by decide) fun _ _ _ _ => rfl

/-- Settles O29: the difference, which may be negative, is narrowed to the lane. -/
theorem integerSubWraps : Obligations.IntegerSubWraps := by
  refine ⟨?w8, ?w16, ?w32, ?w64⟩
  case w8 => exact binaryLanes_of_lanewise (fun _ => toNat_wrapSub) (by decide) (by decide) fun _ _ _ _ => rfl
  case w16 => exact binaryLanes_of_lanewise (fun _ => toNat_wrapSub) (by decide) (by decide) fun _ _ _ _ => rfl
  case w32 => exact binaryLanes_of_lanewise (fun _ => toNat_wrapSub) (by decide) (by decide) fun _ _ _ _ => rfl
  case w64 => exact binaryLanes_of_lanewise (fun _ => toNat_wrapSub) (by decide) (by decide) fun _ _ _ _ => rfl

/-- Settles O30: the low bits of the product are those of either reading. -/
theorem integerMulWraps : Obligations.IntegerMulWraps := by
  refine ⟨?w8, ?w16, ?w32, ?w64⟩
  case w8 => exact binaryLanes_of_lanewise (fun _ => wrapMul_readings) (by decide) (by decide) fun _ _ _ _ => rfl
  case w16 => exact binaryLanes_of_lanewise (fun _ => wrapMul_readings) (by decide) (by decide) fun _ _ _ _ => rfl
  case w32 => exact binaryLanes_of_lanewise (fun _ => wrapMul_readings) (by decide) (by decide) fun _ _ _ _ => rfl
  case w64 => exact binaryLanes_of_lanewise (fun _ => wrapMul_readings) (by decide) (by decide) fun _ _ _ _ => rfl

/-- Settles O31: zero minus the lane is narrowed to the lane. -/
theorem integerNegWraps : Obligations.IntegerNegWraps := by
  refine ⟨?w8, ?w16, ?w32, ?w64⟩
  case w8 => exact unaryLanes_of_lanewise (fun _ => toNat_wrapNeg) (by decide) (by decide) fun _ _ _ => rfl
  case w16 => exact unaryLanes_of_lanewise (fun _ => toNat_wrapNeg) (by decide) (by decide) fun _ _ _ => rfl
  case w32 => exact unaryLanes_of_lanewise (fun _ => toNat_wrapNeg) (by decide) (by decide) fun _ _ _ => rfl
  case w64 => exact unaryLanes_of_lanewise (fun _ => toNat_wrapNeg) (by decide) (by decide) fun _ _ _ => rfl

/-- Settles O32: the exact sum of the signed or the unsigned readings is clamped to the range of that reading. -/
theorem addSaturates : Obligations.AddSaturates := by
  refine ⟨?s8, ?s16, ?u8, ?u16⟩
  case s8 => exact binaryLanes_of_lanewise (fun _ => toInt_addSatS (by decide)) (by decide) (by decide) fun _ _ _ _ => rfl
  case s16 => exact binaryLanes_of_lanewise (fun _ => toInt_addSatS (by decide)) (by decide) (by decide) fun _ _ _ _ => rfl
  case u8 => exact binaryLanes_of_lanewise (fun _ => toNat_addSatU) (by decide) (by decide) fun _ _ _ _ => rfl
  case u16 => exact binaryLanes_of_lanewise (fun _ => toNat_addSatU) (by decide) (by decide) fun _ _ _ _ => rfl

/-- Settles O33: the same for the exact difference. -/
theorem subSaturates : Obligations.SubSaturates := by
  refine ⟨?s8, ?s16, ?u8, ?u16⟩
  case s8 => exact binaryLanes_of_lanewise (fun _ => toInt_subSatS (by decide)) (by decide) (by decide) fun _ _ _ _ => rfl
  case s16 => exact binaryLanes_of_lanewise (fun _ => toInt_subSatS (by decide)) (by decide) (by decide) fun _ _ _ _ => rfl
  case u8 => exact binaryLanes_of_lanewise (fun _ => toNat_subSatU) (by decide) (by decide) fun _ _ _ _ => rfl
  case u16 => exact binaryLanes_of_lanewise (fun _ => toNat_subSatU) (by decide) (by decide) fun _ _ _ _ => rfl

/-- Settles O34: each of the four is the left shift at its width. -/
theorem shiftsLeft : Obligations.ShiftsLeft := by
  refine ⟨?w8, ?w16, ?w32, ?w64⟩
  case w8 => exact shiftLanes_of_lanewise (fun x _ => toNat_shiftLeft _ x) (by decide) (by decide) fun _ _ _ _ => rfl
  case w16 => exact shiftLanes_of_lanewise (fun x _ => toNat_shiftLeft _ x) (by decide) (by decide) fun _ _ _ _ => rfl
  case w32 => exact shiftLanes_of_lanewise (fun x _ => toNat_shiftLeft _ x) (by decide) (by decide) fun _ _ _ _ => rfl
  case w64 => exact shiftLanes_of_lanewise (fun x _ => toNat_shiftLeft _ x) (by decide) (by decide) fun _ _ _ _ => rfl

/-- Settles O35: the four signed interpretations shift arithmetically, the four unsigned ones logically. -/
theorem shiftsRight : Obligations.ShiftsRight := by
  refine ⟨?s8, ?s16, ?s32, ?s64, ?u8, ?u16, ?u32, ?u64⟩
  case s8 => exact shiftLanes_of_lanewise (fun x _ => toInt_shiftRightS _ x) (by decide) (by decide) fun _ _ _ _ => rfl
  case s16 => exact shiftLanes_of_lanewise (fun x _ => toInt_shiftRightS _ x) (by decide) (by decide) fun _ _ _ _ => rfl
  case s32 => exact shiftLanes_of_lanewise (fun x _ => toInt_shiftRightS _ x) (by decide) (by decide) fun _ _ _ _ => rfl
  case s64 => exact shiftLanes_of_lanewise (fun x _ => toInt_shiftRightS _ x) (by decide) (by decide) fun _ _ _ _ => rfl
  case u8 => exact shiftLanes_of_lanewise (fun x _ => toNat_shiftRightU _ x) (by decide) (by decide) fun _ _ _ _ => rfl
  case u16 => exact shiftLanes_of_lanewise (fun x _ => toNat_shiftRightU _ x) (by decide) (by decide) fun _ _ _ _ => rfl
  case u32 => exact shiftLanes_of_lanewise (fun x _ => toNat_shiftRightU _ x) (by decide) (by decide) fun _ _ _ _ => rfl
  case u64 => exact shiftLanes_of_lanewise (fun x _ => toNat_shiftRightU _ x) (by decide) (by decide) fun _ _ _ _ => rfl

end Sys2Proof.Machine
end

section
/-! Logical and bitwise operations and reductions (44_logical_bitwise.md R320 to R326): the shapes of the statements on boolean
vectors, and why an operation on every bit of a vector is the same operation on its lanes at any width. -/

namespace Sys2Proof

variable {W L : Nat}

/-- The elements of the list of lanes are the lanes. -/
theorem Lanes.mem_toList {α : Type} (v : Lanes α L) (x : α) : x ∈ v.toList ↔ ∃ i, v.at i = x := by
  rw [List.mem_iff_getElem]
  constructor
  · rintro ⟨n, hn, rfl⟩
    exact ⟨⟨n, v.size ▸ hn⟩, rfl⟩
  · rintro ⟨i, rfl⟩
    exact ⟨i.val, v.size.symm ▸ i.isLt, rfl⟩

namespace Machine

/-! ### Boolean vectors -/

/-- Both vectors are read, and their lanes combined pairwise (R320 to R322). -/
theorem booleanBinary_of_zipWith {k : Kind (Lanes Bool L) (Lanes Bool L)} (hk : k.Lawful)
    {mk : Ident → Operand (Lanes Bool L) → Operand (Lanes Bool L) → Instr} {f : Bool → Bool → Bool}
    (hexec : ∀ s d a b, exec (mk d a b) s = binaryBooleans s d k a b f) : BooleanBinary k mk f := by
  intro s d a b va vb ha hb hd
  rw [hexec]
  exact exec1_completes (both_of (read_of_holds hk ha) (read_of_holds hk hb)) hd (Lanes.at_zipWith f va vb)

/-- The vector is read, and each lane replaced (R323). -/
theorem booleanUnary_of_map {k : Kind (Lanes Bool L) (Lanes Bool L)} (hk : k.Lawful)
    {mk : Ident → Operand (Lanes Bool L) → Instr} {f : Bool → Bool}
    (hexec : ∀ s d a, exec (mk d a) s = unaryBooleans s d k a f) : BooleanUnary k mk f := by
  intro s d a va ha hd
  rw [hexec]
  exact exec1_completes (read_of_holds hk ha) hd (Lanes.at_map f va)

/-! ### Reductions -/

theorem anyLane_iff (v : Lanes Bool L) : anyLane v = true ↔ ∃ i, v.at i = true := by
  simp [anyLane, Lanes.mem_toList]

theorem allLanes_iff (v : Lanes Bool L) : allLanes v = true ↔ ∀ i, v.at i = true := by
  simp [allLanes, Lanes.mem_toList]

/-- A reduction, given what its function says of the lanes (R325, R326). -/
theorem reduces_of_iff {k : Kind (Lanes Bool L) (Lanes Bool L)} (hk : k.Lawful)
    {mk : Ident → Operand (Lanes Bool L) → Instr} {f : Lanes Bool L → Bool} {P : Lanes Bool L → Prop}
    (hf : ∀ v, f v = true ↔ P v) (hexec : ∀ s d a, exec (mk d a) s = exec1 s d kBool (read k s a) f) :
    Reduces k mk P := by
  intro s d a va ha hd
  rw [hexec]
  exact exec1_completes (read_of_holds hk ha) hd (hf va)

/-! ### Bits of lanes -/

/-- The bit of the vector that is bit `k` of lane `n` (10_state.md R37, R38). -/
def laneBit (m : LaneMapping) (W n k : Nat) : Nat := W * n + if lsbFirst m then k else W - 1 - k

theorem getLsbD_lane (m : LaneMapping) (v : V128) {n k : Nat} (hk : k < W) :
    (lane m W v n).getLsbD k = v.getLsbD (laneBit m W n k) := by
  have hmirror : W - 1 - k < W := by omega
  unfold lane orient laneBit
  split_ifs
  · simp [hk]
  · simp only [BitVec.getLsbD_reverse, BitVec.getMsbD_eq_getLsbD, BitVec.getLsbD_extractLsb', hk, hmirror, decide_true,
      Bool.true_and]

/-- A lane within the vector has its bits within the vector. -/
theorem laneBit_lt (m : LaneMapping) {n k : Nat} (hn : W * (n + 1) ≤ 128) (hk : k < W) : laneBit m W n k < 128 := by
  rw [Nat.mul_succ] at hn
  unfold laneBit
  split_ifs <;> omega

/-- Which bit of the vector a bit of a lane is does not depend on the vector, so an operation on each bit is the same operation
on each lane, whatever the width and the mapping (R324). -/
theorem lane_bitwise2 {f : ∀ {w : Nat}, BitVec w → BitVec w → BitVec w} {g : Bool → Bool → Bool}
    (hf : ∀ {w : Nat} (x y : BitVec w) k, (f x y).getLsbD k = g (x.getLsbD k) (y.getLsbD k))
    (m : LaneMapping) (u v : V128) (n : Nat) : lane m W (f u v) n = f (lane m W u n) (lane m W v n) := by
  apply BitVec.eq_of_getLsbD_eq
  intro k hk
  rw [hf, getLsbD_lane m _ hk, getLsbD_lane m _ hk, getLsbD_lane m _ hk, hf]

/-- Negation sets the bits of a pattern only below its width, so the lane has to lie within the vector. -/
theorem lane_not (m : LaneMapping) (v : V128) {n : Nat} (hn : W * (n + 1) ≤ 128) :
    lane m W (~~~v) n = ~~~(lane m W v n) := by
  apply BitVec.eq_of_getLsbD_eq
  intro k hk
  simp only [BitVec.getLsbD_not, getLsbD_lane m _ hk, laneBit_lt m hn hk, hk, decide_true]

/-- A bitwise statement of two operands: its result bit by bit, and so lane by lane. -/
theorem bitwise2_completes {mk : Ident → VOperand → VOperand → Instr}
    {f : ∀ {w : Nat}, BitVec w → BitVec w → BitVec w} {g : Bool → Bool → Bool}
    (hf : ∀ {w : Nat} (x y : BitVec w) k, (f x y).getLsbD k = g (x.getLsbD k) (y.getLsbD k))
    (hexec : ∀ s d a b, exec (mk d a b) s = binary s d a b f) {s : State} {d : Ident} {a b : VOperand} {va vb : V128}
    (ha : Holds kV128 s a va) (hb : Holds kV128 s b vb) (hd : s.accepts d .v128 = true) :
    Completes kV128 (exec (mk d a b) s) s d 0 fun v =>
      (∀ k, v.getLsbD k = g (va.getLsbD k) (vb.getLsbD k)) ∧
      ∀ W i, W * (i + 1) ≤ 128 → lane s.params.laneMapping W v i =
        f (lane s.params.laneMapping W va i) (lane s.params.laneMapping W vb i) := by
  rw [hexec]
  exact exec1_completes (both_of (read_of_holds kV128_lawful ha) (read_of_holds kV128_lawful hb)) hd
    ⟨hf va vb, fun _ i _ => lane_bitwise2 hf _ va vb i⟩

/-! ### The statements -/

/-- Settles O36: each of the sixteen is the shape of its operation at its kind. -/
theorem booleanLogic : Obligations.BooleanLogic := by
  refine ⟨?and8, ?and16, ?and32, ?and64, ?or8, ?or16, ?or32, ?or64, ?xor8, ?xor16, ?xor32, ?xor64,
    ?not8, ?not16, ?not32, ?not64⟩
  case and8 => exact booleanBinary_of_zipWith kB8x16_lawful fun _ _ _ _ => rfl
  case and16 => exact booleanBinary_of_zipWith kB16x8_lawful fun _ _ _ _ => rfl
  case and32 => exact booleanBinary_of_zipWith kB32x4_lawful fun _ _ _ _ => rfl
  case and64 => exact booleanBinary_of_zipWith kB64x2_lawful fun _ _ _ _ => rfl
  case or8 => exact booleanBinary_of_zipWith kB8x16_lawful fun _ _ _ _ => rfl
  case or16 => exact booleanBinary_of_zipWith kB16x8_lawful fun _ _ _ _ => rfl
  case or32 => exact booleanBinary_of_zipWith kB32x4_lawful fun _ _ _ _ => rfl
  case or64 => exact booleanBinary_of_zipWith kB64x2_lawful fun _ _ _ _ => rfl
  case xor8 => exact booleanBinary_of_zipWith kB8x16_lawful fun _ _ _ _ => rfl
  case xor16 => exact booleanBinary_of_zipWith kB16x8_lawful fun _ _ _ _ => rfl
  case xor32 => exact booleanBinary_of_zipWith kB32x4_lawful fun _ _ _ _ => rfl
  case xor64 => exact booleanBinary_of_zipWith kB64x2_lawful fun _ _ _ _ => rfl
  case not8 => exact booleanUnary_of_map kB8x16_lawful fun _ _ _ => rfl
  case not16 => exact booleanUnary_of_map kB16x8_lawful fun _ _ _ => rfl
  case not32 => exact booleanUnary_of_map kB32x4_lawful fun _ _ _ => rfl
  case not64 => exact booleanUnary_of_map kB64x2_lawful fun _ _ _ => rfl

/-- Settles O37: the four act on each bit, and a bit of a lane is a bit of the vector. -/
theorem bitwiseVector : Obligations.BitwiseVector := by
  refine ⟨?and, ?or, ?xor, ?not⟩
  case and =>
    intro s d a b va vb
    exact bitwise2_completes (f := (· &&& ·)) (fun x y k => BitVec.getLsbD_and) fun _ _ _ _ => rfl
  case or =>
    intro s d a b va vb
    exact bitwise2_completes (f := (· ||| ·)) (fun x y k => BitVec.getLsbD_or) fun _ _ _ _ => rfl
  case xor =>
    intro s d a b va vb
    exact bitwise2_completes (f := (· ^^^ ·)) (fun x y k => BitVec.getLsbD_xor) fun _ _ _ _ => rfl
  case not =>
    intro s d a va ha hd
    refine exec1_completes (f := fun v => ~~~v) (read_of_holds kV128_lawful ha) hd
      ⟨fun k hk => ?_, fun W i hi => lane_not _ va hi⟩
    simp [hk]

/-- Settles O38: each of the eight is the shape of a reduction at its kind. -/
theorem booleanReductions : Obligations.BooleanReductions := by
  refine ⟨?any8, ?any16, ?any32, ?any64, ?all8, ?all16, ?all32, ?all64⟩
  case any8 => exact reduces_of_iff kB8x16_lawful anyLane_iff fun _ _ _ => rfl
  case any16 => exact reduces_of_iff kB16x8_lawful anyLane_iff fun _ _ _ => rfl
  case any32 => exact reduces_of_iff kB32x4_lawful anyLane_iff fun _ _ _ => rfl
  case any64 => exact reduces_of_iff kB64x2_lawful anyLane_iff fun _ _ _ => rfl
  case all8 => exact reduces_of_iff kB8x16_lawful allLanes_iff fun _ _ _ => rfl
  case all16 => exact reduces_of_iff kB16x8_lawful allLanes_iff fun _ _ _ => rfl
  case all32 => exact reduces_of_iff kB32x4_lawful allLanes_iff fun _ _ _ => rfl
  case all64 => exact reduces_of_iff kB64x2_lawful allLanes_iff fun _ _ _ => rfl

end Machine

end Sys2Proof
end

section
/-! Comparisons lane by lane (45_comparisons.md R360 to R367): what each lane function says of two lanes, for every width and
format, and the one shape of the statements that apply one to every lane. -/

namespace Sys2Proof.Machine

variable {W L : Nat}

/-! ### Integers -/

theorem patEq_iff (x y : BitVec W) : patEq x y = true ↔ x = y := beq_iff_eq

theorem patNe_iff (x y : BitVec W) : patNe x y = true ↔ x ≠ y := bne_iff_ne

theorem ltS_iff (x y : BitVec W) : ltS x y = true ↔ x.toInt < y.toInt := decide_eq_true_iff

theorem leS_iff (x y : BitVec W) : leS x y = true ↔ x.toInt ≤ y.toInt := decide_eq_true_iff

theorem gtS_iff (x y : BitVec W) : gtS x y = true ↔ y.toInt < x.toInt := decide_eq_true_iff

theorem geS_iff (x y : BitVec W) : geS x y = true ↔ y.toInt ≤ x.toInt := decide_eq_true_iff

theorem ltU_iff (x y : BitVec W) : ltU x y = true ↔ x.toNat < y.toNat := decide_eq_true_iff.trans Int.ofNat_lt

theorem leU_iff (x y : BitVec W) : leU x y = true ↔ x.toNat ≤ y.toNat := decide_eq_true_iff.trans Int.ofNat_le

theorem gtU_iff (x y : BitVec W) : gtU x y = true ↔ y.toNat < x.toNat := decide_eq_true_iff.trans Int.ofNat_lt

theorem geU_iff (x y : BitVec W) : geU x y = true ↔ y.toNat ≤ x.toNat := decide_eq_true_iff.trans Int.ofNat_le

/-! ### Floating-point values as integers: the classes are ranges of `val` (R133, log entry 11) -/

section
variable {f : Fmt W}

/-- The magnitude that the fields of an infinity would spell as a normal number. -/
def Fmt.infMag (f : Fmt W) : Nat := f.magOf f.infCode

theorem Fmt.Regular.infMag_pos (hf : f.Regular) : 0 < f.infMag := by
  have h := f.magOf_strictMono hf.infCode_pos
  rwa [f.magOf_zero] at h

theorem Fmt.abs_val (f : Fmt W) (x : BitVec W) : |f.val x| = f.magOf (f.code x) := by
  rw [Fmt.val, f.mag_eq]
  split_ifs <;> simp

/-- Infinities lie beyond every finite value, on both sides. -/
theorem Fmt.isfinite_iff_val (f : Fmt W) (x : BitVec W) :
    f.isfinite x = true ↔ -(f.infMag : Int) < f.val x ∧ f.val x < f.infMag := by
  rw [← abs_lt, f.abs_val, Fmt.infMag, Nat.cast_lt, f.magOf_strictMono.lt_iff_lt, f.isfinite_iff]

/-- Only a NaN lies beyond an infinity. -/
theorem Fmt.isnan_eq_false_iff_val (f : Fmt W) (x : BitVec W) :
    f.isnan x = false ↔ -(f.infMag : Int) ≤ f.val x ∧ f.val x ≤ f.infMag := by
  rw [← abs_le, f.abs_val, Fmt.infMag, Nat.cast_le, f.magOf_strictMono.le_iff_le, f.isnan_eq_false_iff]

theorem Fmt.isinf_iff_mag (f : Fmt W) (x : BitVec W) : f.isinf x = true ↔ f.mag x = f.infMag := by
  rw [f.isinf_iff, f.mag_eq, Fmt.infMag, f.magOf_strictMono.injective.eq_iff]

theorem Fmt.Regular.isinf_neg_iff_val (hf : f.Regular) (x : BitVec W) :
    f.isinf x = true ∧ signbit x = true ↔ f.val x = -f.infMag := by
  have hpos := hf.infMag_pos
  rw [f.isinf_iff_mag, Fmt.val]
  cases signbit x with
  | false =>
    simp only [Bool.false_eq_true, and_false, if_false, false_iff]
    omega
  | true => simp

theorem Fmt.Regular.isinf_pos_iff_val (hf : f.Regular) (x : BitVec W) :
    f.isinf x = true ∧ signbit x = false ↔ f.val x = f.infMag := by
  have hpos := hf.infMag_pos
  rw [f.isinf_iff_mag, Fmt.val]
  cases signbit x with
  | false => simp
  | true =>
    simp only [Bool.true_eq_false, and_false, if_true, false_iff]
    omega

/-- Infinities of one sign. -/
theorem Fmt.Regular.isinf_same_iff_val (hf : f.Regular) (x y : BitVec W) :
    f.isinf x = true ∧ f.isinf y = true ∧ signbit x = signbit y ↔
      f.val x = -f.infMag ∧ f.val y = -f.infMag ∨ f.val x = f.infMag ∧ f.val y = f.infMag := by
  simp only [← hf.isinf_neg_iff_val, ← hf.isinf_pos_iff_val]
  cases signbit x <;> cases signbit y <;> simp

/-- The unit of `val` is positive, so that values stand in the order of their integers. -/
theorem Fmt.rat_lt_rat_iff (f : Fmt W) (x y : BitVec W) : f.rat x < f.rat y ↔ f.val x < f.val y := by
  rw [f.rat_eq_val, f.rat_eq_val, mul_lt_mul_iff_left₀ (by positivity), Int.cast_lt]

theorem Fmt.rat_eq_rat_iff (f : Fmt W) (x y : BitVec W) : f.rat x = f.rat y ↔ f.val x = f.val y := by
  rw [f.rat_eq_val, f.rat_eq_val, mul_left_inj' (by positivity), Int.cast_inj]

/-- The order of R157 is that of the integers: by value within the finite data, with an infinity beyond them all. -/
theorem Fmt.Regular.less_iff (hf : f.Regular) (x y : BitVec W) :
    f.Less x y ↔ f.isnan x = false ∧ f.isnan y = false ∧ f.val x < f.val y := by
  have hpos := hf.infMag_pos
  refine and_congr_right fun hx => and_congr_right fun hy => ?_
  rw [f.isnan_eq_false_iff_val] at hx hy
  simp only [← and_assoc, hf.isinf_neg_iff_val, hf.isinf_pos_iff_val, f.isfinite_iff_val, f.rat_lt_rat_iff]
  omega

/-- Equality of R157 is that of the integers: both zeros are 0, and no finite datum has the integer of an infinity. -/
theorem Fmt.Regular.equal_iff (hf : f.Regular) (x y : BitVec W) :
    f.Equal x y ↔ f.isnan x = false ∧ f.isnan y = false ∧ f.val x = f.val y := by
  refine and_congr_right fun hx => and_congr_right fun hy => ?_
  rw [f.isnan_eq_false_iff_val] at hx hy
  rw [hf.isinf_same_iff_val, f.isfinite_iff_val, f.isfinite_iff_val, f.rat_eq_rat_iff]
  omega

/-! ### Floating-point comparisons (R157) -/

theorem Fmt.Regular.eq_iff (hf : f.Regular) (x y : BitVec W) : f.eq x y = true ↔ f.Equal x y := by
  simp [Fmt.eq, hf.equal_iff, and_assoc]

/-- A NaN operand makes it true, as it makes equality false. -/
theorem Fmt.Regular.ne_iff (hf : f.Regular) (x y : BitVec W) : f.ne x y = true ↔ ¬ f.Equal x y := by
  rw [Fmt.ne, Bool.not_eq_true', ← Bool.not_eq_true, hf.eq_iff]

theorem Fmt.Regular.lt_iff (hf : f.Regular) (x y : BitVec W) : f.lt x y = true ↔ f.Less x y := by
  simp [Fmt.lt, hf.less_iff, and_assoc]

theorem Fmt.Regular.le_iff (hf : f.Regular) (x y : BitVec W) : f.le x y = true ↔ f.Less x y ∨ f.Equal x y := by
  simp only [hf.less_iff, hf.equal_iff, ← and_or_left, ← le_iff_lt_or_eq]
  simp [Fmt.le, and_assoc]

theorem Fmt.Regular.equal_comm (hf : f.Regular) (x y : BitVec W) : f.Equal x y ↔ f.Equal y x := by
  rw [hf.equal_iff, hf.equal_iff, and_left_comm, @eq_comm _ (f.val x)]

theorem Fmt.Regular.gt_iff (hf : f.Regular) (x y : BitVec W) : f.gt x y = true ↔ f.Less y x :=
  hf.lt_iff y x

theorem Fmt.Regular.ge_iff (hf : f.Regular) (x y : BitVec W) : f.ge x y = true ↔ f.Less y x ∨ f.Equal x y :=
  (hf.le_iff y x).trans (or_congr_right (hf.equal_comm y x))

end

/-! ### The shape -/

/-- A comparison, given what its function says of two lanes: a boolean lane is the function of the lanes of its number (R360,
00_scope.md R17). -/
theorem compareLanes_of_iff {k : Kind (Lanes Bool L) (Lanes Bool L)} {mk : Ident → VOperand → VOperand → Instr}
    {f : BitVec W → BitVec W → Bool} {R : BitVec W → BitVec W → Prop} (hf : ∀ x y, f x y = true ↔ R x y)
    (hexec : ∀ s d a b, exec (mk d a b) s = comparison s d k a b (lanewiseCompare s.params.laneMapping W L f)) :
    CompareLanes W k mk R := by
  intro s d a b va vb ha hb hd
  rw [hexec]
  refine exec1_completes (both_of (read_of_holds kV128_lawful ha) (read_of_holds kV128_lawful hb)) hd fun i => ?_
  rw [lanewiseCompare, Lanes.at_tabulate]
  exact hf _ _

/-! ### The statements -/

/-- Settles O39: patterns are compared as bit vectors. -/
theorem integerEquality : Obligations.IntegerEquality := by
  refine ⟨?eq8, ?eq16, ?eq32, ?eq64, ?ne8, ?ne16, ?ne32, ?ne64⟩
  case eq8 => exact compareLanes_of_iff patEq_iff fun _ _ _ _ => rfl
  case eq16 => exact compareLanes_of_iff patEq_iff fun _ _ _ _ => rfl
  case eq32 => exact compareLanes_of_iff patEq_iff fun _ _ _ _ => rfl
  case eq64 => exact compareLanes_of_iff patEq_iff fun _ _ _ _ => rfl
  case ne8 => exact compareLanes_of_iff patNe_iff fun _ _ _ _ => rfl
  case ne16 => exact compareLanes_of_iff patNe_iff fun _ _ _ _ => rfl
  case ne32 => exact compareLanes_of_iff patNe_iff fun _ _ _ _ => rfl
  case ne64 => exact compareLanes_of_iff patNe_iff fun _ _ _ _ => rfl

/-- Settles O40: lanes are compared as the integers of their signed readings. -/
theorem signedOrder : Obligations.SignedOrder := by
  refine ⟨?lt8, ?lt16, ?lt32, ?lt64, ?le8, ?le16, ?le32, ?le64, ?gt8, ?gt16, ?gt32, ?gt64, ?ge8, ?ge16, ?ge32, ?ge64⟩
  case lt8 => exact compareLanes_of_iff ltS_iff fun _ _ _ _ => rfl
  case lt16 => exact compareLanes_of_iff ltS_iff fun _ _ _ _ => rfl
  case lt32 => exact compareLanes_of_iff ltS_iff fun _ _ _ _ => rfl
  case lt64 => exact compareLanes_of_iff ltS_iff fun _ _ _ _ => rfl
  case le8 => exact compareLanes_of_iff leS_iff fun _ _ _ _ => rfl
  case le16 => exact compareLanes_of_iff leS_iff fun _ _ _ _ => rfl
  case le32 => exact compareLanes_of_iff leS_iff fun _ _ _ _ => rfl
  case le64 => exact compareLanes_of_iff leS_iff fun _ _ _ _ => rfl
  case gt8 => exact compareLanes_of_iff gtS_iff fun _ _ _ _ => rfl
  case gt16 => exact compareLanes_of_iff gtS_iff fun _ _ _ _ => rfl
  case gt32 => exact compareLanes_of_iff gtS_iff fun _ _ _ _ => rfl
  case gt64 => exact compareLanes_of_iff gtS_iff fun _ _ _ _ => rfl
  case ge8 => exact compareLanes_of_iff geS_iff fun _ _ _ _ => rfl
  case ge16 => exact compareLanes_of_iff geS_iff fun _ _ _ _ => rfl
  case ge32 => exact compareLanes_of_iff geS_iff fun _ _ _ _ => rfl
  case ge64 => exact compareLanes_of_iff geS_iff fun _ _ _ _ => rfl

/-- Settles O41: lanes are compared as the integers of their unsigned readings. -/
theorem unsignedOrder : Obligations.UnsignedOrder := by
  refine ⟨?lt8, ?lt16, ?lt32, ?lt64, ?le8, ?le16, ?le32, ?le64, ?gt8, ?gt16, ?gt32, ?gt64, ?ge8, ?ge16, ?ge32, ?ge64⟩
  case lt8 => exact compareLanes_of_iff ltU_iff fun _ _ _ _ => rfl
  case lt16 => exact compareLanes_of_iff ltU_iff fun _ _ _ _ => rfl
  case lt32 => exact compareLanes_of_iff ltU_iff fun _ _ _ _ => rfl
  case lt64 => exact compareLanes_of_iff ltU_iff fun _ _ _ _ => rfl
  case le8 => exact compareLanes_of_iff leU_iff fun _ _ _ _ => rfl
  case le16 => exact compareLanes_of_iff leU_iff fun _ _ _ _ => rfl
  case le32 => exact compareLanes_of_iff leU_iff fun _ _ _ _ => rfl
  case le64 => exact compareLanes_of_iff leU_iff fun _ _ _ _ => rfl
  case gt8 => exact compareLanes_of_iff gtU_iff fun _ _ _ _ => rfl
  case gt16 => exact compareLanes_of_iff gtU_iff fun _ _ _ _ => rfl
  case gt32 => exact compareLanes_of_iff gtU_iff fun _ _ _ _ => rfl
  case gt64 => exact compareLanes_of_iff gtU_iff fun _ _ _ _ => rfl
  case ge8 => exact compareLanes_of_iff geU_iff fun _ _ _ _ => rfl
  case ge16 => exact compareLanes_of_iff geU_iff fun _ _ _ _ => rfl
  case ge32 => exact compareLanes_of_iff geU_iff fun _ _ _ _ => rfl
  case ge64 => exact compareLanes_of_iff geU_iff fun _ _ _ _ => rfl

/-- Settles O42: both formats are regular, so that the integers the model compares stand as the values of R157 do. -/
theorem floatComparisons : Obligations.FloatComparisons := by
  refine ⟨?eq32, ?eq64, ?ne32, ?ne64, ?lt32, ?lt64, ?le32, ?le64, ?gt32, ?gt64, ?ge32, ?ge64⟩
  case eq32 => exact compareLanes_of_iff binary32_regular.eq_iff fun _ _ _ _ => rfl
  case eq64 => exact compareLanes_of_iff binary64_regular.eq_iff fun _ _ _ _ => rfl
  case ne32 => exact compareLanes_of_iff binary32_regular.ne_iff fun _ _ _ _ => rfl
  case ne64 => exact compareLanes_of_iff binary64_regular.ne_iff fun _ _ _ _ => rfl
  case lt32 => exact compareLanes_of_iff binary32_regular.lt_iff fun _ _ _ _ => rfl
  case lt64 => exact compareLanes_of_iff binary64_regular.lt_iff fun _ _ _ _ => rfl
  case le32 => exact compareLanes_of_iff binary32_regular.le_iff fun _ _ _ _ => rfl
  case le64 => exact compareLanes_of_iff binary64_regular.le_iff fun _ _ _ _ => rfl
  case gt32 => exact compareLanes_of_iff binary32_regular.gt_iff fun _ _ _ _ => rfl
  case gt64 => exact compareLanes_of_iff binary64_regular.gt_iff fun _ _ _ _ => rfl
  case ge32 => exact compareLanes_of_iff binary32_regular.ge_iff fun _ _ _ _ => rfl
  case ge64 => exact compareLanes_of_iff binary64_regular.ge_iff fun _ _ _ _ => rfl

end Sys2Proof.Machine
end

section
/-! Loads and stores (46_load_store.md R431 to R434): what a load and a store whose bytes are accessible answer, for every width
and number of lanes, with the frame of a store and the load of what was stored. -/

namespace Sys2Proof.Machine

/-- The statements write the byte order of 20_memory.md R77 through the mapping, the laws through `littleEndian`. -/
theorem byteWeight_eq_byteRank (p : Params) (m j : Nat) : byteWeight p m j = byteRank p.laneMapping m j := by
  unfold byteWeight byteRank
  cases p.laneMapping <;> rfl

/-! ### A Buffer replaced -/

/-- The Buffer replaced is the new one. -/
theorem State.buffer_setBuffer_same {s : State} {mem : Ident} {b : Buffer} (hb : s.buffer mem = some b) (b' : Buffer) :
    (s.setBuffer mem b').buffer mem = some b' := by
  rw [State.buffer_eq, State.setBuffer_mem, Memory.find_update_same, ← State.buffer_eq, hb, Option.map_some]

/-- Every other Buffer is as before. -/
theorem State.buffer_setBuffer_other {m mem : Ident} (hm : m ≠ mem) (s : State) (b' : Buffer) :
    (s.setBuffer mem b').buffer m = s.buffer m :=
  Memory.find_update_other hm b' s.mem

/-- A statement that only replaces a Buffer by one of the same length keeps the launch. -/
theorem retired_setBuffer {s : State} {mem : Ident} {b b' : Buffer} (hb : s.buffer mem = some b) (hlen : b'.len = b.len) :
    Retired s (s.setBuffer mem b').advance where
  pc := rfl
  fault := rfl
  program := rfl
  params := rfl
  lengths m := by
    change ((s.setBuffer mem b').buffer m).map Buffer.len = (s.buffer m).map Buffer.len
    by_cases hm : m = mem
    · subst hm
      rw [State.buffer_setBuffer_same hb, hb, Option.map_some, Option.map_some, hlen]
    · rw [State.buffer_setBuffer_other hm]

/-- The frame of a store, when the new Buffer differs from the old one in the range alone. -/
theorem stored_setBuffer {s : State} {mem : Ident} {addr n : Nat} {b b' : Buffer} (hb : s.buffer mem = some b)
    (hlen : b'.len = b.len) (hother : ∀ a, a < addr ∨ addr + n ≤ a → b'.byte a = b.byte a) :
    Stored s (s.setBuffer mem b').advance mem addr n where
  slots _ := rfl
  others m a ha := by
    rw [State.byte_advance]
    by_cases hm : m = mem
    · subst hm
      have hout : a < addr ∨ addr + n ≤ a := by
        by_contra hin
        exact ha ⟨rfl, by omega, by omega⟩
      rw [State.byte_setBuffer_same hb, hlen, hother a hout, State.byte, hb]
    · exact State.byte_setBuffer_other hm b' a
  draws := rfl
  rest := retired_setBuffer hb hlen

/-! ### What a load and a store answer -/

/-- A load whose bytes are accessible writes the lanes they spell. -/
theorem execLoadLanes_eq {s : State} {d mem : Ident} {addr W n : Nat} {b : Buffer} (haddr : addr < 2 ^ s.params.offsetBits)
    (hb : s.buffer mem = some b) (hacc : Accessible s mem addr (n * (W / 8))) (hd : s.accepts d .v128 = true) :
    execLoadLanes s d mem addr W n =
      .next (s.retire d (.v128 (ofLanes s.params.laneMapping (loadLanes s.params.laneMapping W n b addr)))) := by
  unfold execLoadLanes
  rw [withOperands_val _ (readOffset_of_lt haddr) (accepts_all hd) (by simp [hb]) rfl]
  simp only [hb, (inRange_iff hb _ _).2 hacc, if_true]

/-- A store whose bytes are accessible replaces its Buffer by the one with the lanes written. -/
theorem execStoreLanes_eq {s : State} {mem : Ident} {addr W n : Nat} {data : VOperand} {v : V128} {b : Buffer}
    (haddr : addr < 2 ^ s.params.offsetBits) (hb : s.buffer mem = some b) (hacc : Accessible s mem addr (n * (W / 8)))
    (hv : Holds kV128 s data v) :
    execStoreLanes s mem addr data W n = .next (s.setBuffer mem
      (storeLanes s.params.laneMapping b addr ((lanes s.params.laneMapping W v).take n))).advance := by
  unfold execStoreLanes
  rw [withOperands_val _ (both_of (readOffset_of_lt haddr) (read_of_holds kV128_lawful hv)) (by simp) (by simp [hb]) rfl]
  simp only [hb, (inRange_iff hb _ _).2 hacc, if_true]

/-- A store that does not fault has an address of its type and accessible bytes (20_memory.md R81). -/
theorem accessible_of_execStoreLanes {s t : State} {mem : Ident} {addr W n : Nat} {data : VOperand}
    (hexec : execStoreLanes s mem addr data W n = .next t) (ht : t.fault = none) :
    addr < 2 ^ s.params.offsetBits ∧ Accessible s mem addr (n * (W / 8)) := by
  obtain ⟨-, hmem, -, ⟨x, -, rfl⟩ | ⟨⟨a, v⟩, hread, h⟩⟩ := withOperands_next hexec
  · cases ht
  obtain ⟨hoffset, -⟩ := Got.both_eq_val hread
  obtain rfl : a = addr := eq_of_readOffset hoffset
  obtain ⟨b, hb⟩ := Option.isSome_iff_exists.1 (hmem mem rfl)
  simp only [hb] at h
  split_ifs at h with hr <;> cases h
  · refine ⟨?_, (inRange_iff hb _ _).1 hr⟩
    unfold readOffset at hoffset
    split_ifs at hoffset with hlt
    exact hlt
  · cases ht

/-! ### Lanes loaded and stored -/

/-- A lane of a vector loaded: the pattern at its bytes, or zero past the lanes that are loaded (R431, R433). -/
theorem lane_ofLanes_loadLanes (m : LaneMapping) {W n i : Nat} (b : Buffer) (addr : Nat) (hi : W * (i + 1) ≤ 128) :
    lane m W (ofLanes m (loadLanes m W n b addr)) i = if i < n then memRead m b (addr + i * (W / 8)) W else 0 := by
  rw [lane_ofLanes m _ hi]
  split_ifs with hin <;> simp [loadLanes, hin]

/-- The lanes that a partial store writes. -/
theorem length_take_lanes (m : LaneMapping) (v : V128) {W n : Nat} (hn : n ≤ 128 / W) :
    ((lanes m W v).take n).length = n := by
  rw [List.length_take, lanes_length, Nat.min_eq_left hn]

/-- A lane of the vector made of the first `n` lanes of another: that lane, or zero past them (R433, R434). -/
theorem lane_ofLanes_take (m : LaneMapping) (v : V128) {W n i : Nat} (hW : 0 < W) (hi : i < 128 / W) :
    lane m W (ofLanes m ((lanes m W v).take n)) i = if i < n then lane m W v i else 0 := by
  rw [lane_ofLanes m _ (lane_lt hW hi)]
  split_ifs with hin <;> simp [List.getD, lanes, hin, hi]

/-- A pattern read depends on its own bytes alone (20_memory.md R71). -/
theorem memRead_congr (m : LaneMapping) {b b' : Buffer} {addr W : Nat}
    (h : ∀ k < W / 8, b'.byte (addr + k) = b.byte (addr + k)) : memRead m b' addr W = memRead m b addr W := by
  have hbytes : (List.range (W / 8)).map (fun k => b'.byte (addr + k)) =
      (List.range (W / 8)).map fun k => b.byte (addr + k) :=
    List.map_congr_left fun k hk => h k (List.mem_range.1 hk)
  unfold memRead
  rw [hbytes]

/-- The first lane of several, and the others from the address after it. -/
theorem loadLanes_succ (m : LaneMapping) (W n : Nat) (b : Buffer) (addr : Nat) :
    loadLanes m W (n + 1) b addr = memRead m b addr W :: loadLanes m W n b (addr + W / 8) := by
  unfold loadLanes
  rw [List.range_succ_eq_map, List.map_cons, List.map_map, Nat.zero_mul, Nat.add_zero]
  congr 2
  funext i
  simp only [Function.comp_apply, Nat.succ_mul, Nat.add_assoc, Nat.add_comm (W / 8)]

/-- Loading the lanes just stored gives them back: each is written at its own bytes, which the lanes after it leave (R72). -/
theorem loadLanes_storeLanes (m : LaneMapping) {W : Nat} (hW : 8 ∣ W) {b : Buffer} (hb : b.wf = true) {addr : Nat}
    (ps : List (BitVec W)) (h : addr + ps.length * (W / 8) ≤ b.len) :
    loadLanes m W ps.length (storeLanes m b addr ps) addr = ps := by
  induction ps generalizing b addr with
  | nil => rfl
  | cons p r ih =>
    simp only [List.length_cons, Nat.succ_mul] at h
    have hfirst : memRead m (storeLanes m (memWrite m b addr p) (addr + W / 8) r) addr W = p := by
      rw [memRead_congr m fun k hk => storeLanes_byte_other m _ r (by omega), memRead_memWrite m hb p hW (by omega)]
    have hrest := ih (memWrite_wf m hb addr p) (addr := addr + W / 8) (by simp; omega)
    rw [List.length_cons, loadLanes_succ, storeLanes, hfirst, hrest]

/-! ### The shapes -/

/-- The pattern at an address in range, written with the bytes of the state. -/
theorem memRead_toNat_state {s : State} {mem : Ident} {b : Buffer} (hb : s.buffer mem = some b) {a W : Nat} (hW : 8 ∣ W)
    (ha : a + W / 8 ≤ b.len) :
    (memRead s.params.laneMapping b a W).toNat =
      (Finset.range (W / 8)).sum fun j => ((s.byte mem (a + j)).getD 0).toNat * 2 ^ (8 * byteWeight s.params (W / 8) j) := by
  rw [memRead_toNat _ b a W hW]
  refine Finset.sum_congr rfl fun j hj => ?_
  have hj' : j < W / 8 := Finset.mem_range.1 hj
  rw [State.byte_eq_some hb (by omega), Option.getD_some, byteWeight_eq_byteRank]

/-- A load of `n` lanes into a vector of `L`. -/
theorem load_lanes {W L n : Nat} (hpos : 0 < W) (hW : 8 ∣ W) (hL : L ≤ 128 / W) {mk : Ident → Ident → Nat → Instr}
    (hexec : ∀ s d mem addr, exec (mk d mem addr) s = execLoadLanes s d mem addr W n) : Loads W L n mk := by
  intro s d mem addr haddr hacc hd
  rw [hexec]
  have ⟨b, hb, hlen, _⟩ := hacc
  refine execLoadLanes_completes haddr hb ((inRange_iff hb _ _).2 hacc) hd fun i hi => ?_
  rw [lane_ofLanes_loadLanes _ b addr (lane_lt hpos (hi.trans_le hL))]
  split_ifs with hin
  · have hend : (i + 1) * (W / 8) ≤ n * (W / 8) := Nat.mul_le_mul_right _ hin
    rw [Nat.succ_mul] at hend
    exact memRead_toNat_state hb hW (by omega)
  · rfl

/-- A store of the first `n` lanes. -/
theorem store_lanes {W n : Nat} (hn : n ≤ 128 / W) {mk : Ident → Nat → VOperand → Instr}
    (hexec : ∀ s mem addr data, exec (mk mem addr data) s = execStoreLanes s mem addr data W n) : Stores W n mk := by
  intro s mem addr data v hs haddr hacc hv
  have ⟨b, hb, hlen, _⟩ := hacc
  have hcount := length_take_lanes s.params.laneMapping v hn
  refine ⟨_, (hexec s mem addr data).trans (execStoreLanes_eq haddr hb hacc hv), ?frame, fun i hi j hj => ?bytes⟩
  case frame =>
    exact stored_setBuffer hb (storeLanes_len _ _ _ _) fun a ha => storeLanes_byte_other _ b _ (by rwa [hcount])
  case bytes =>
    have hbwf : b.wf = true := Memory.wf_find ((State.wf_iff s).1 hs).2 hb
    have hend : (i + 1) * (W / 8) ≤ n * (W / 8) := Nat.mul_le_mul_right _ hi
    rw [Nat.succ_mul] at hend
    rw [State.byte_advance, State.byte_setBuffer_same hb, if_pos (by rw [storeLanes_len]; omega),
      storeLanes_byte_same _ hbwf _ (by rwa [hcount]) (by rwa [hcount]) hj, List.getElem_take, lanes_getElem,
      byteWeight_eq_byteRank]

/-- The load of what was just stored: the store replaced the Buffer that the load reads by one of the same length, so the bytes
it reads are accessible and spell the lanes stored. -/
theorem execLoadLanes_after_store {W n : Nat} (hW : 8 ∣ W) (hn : n ≤ 128 / W) {s t : State} {d mem : Ident} {addr : Nat}
    {data : VOperand} {v : V128} (hs : s.wf = true) (hv : Holds kV128 s data v)
    (hexec : execStoreLanes s mem addr data W n = .next t) (ht : t.fault = none) (hd : t.accepts d .v128 = true) :
    execLoadLanes t d mem addr W n =
      .next (t.retire d (.v128 (ofLanes s.params.laneMapping ((lanes s.params.laneMapping W v).take n)))) := by
  obtain ⟨haddr, hacc⟩ := accessible_of_execStoreLanes hexec ht
  have ⟨b, hb, hlen, hoffset⟩ := hacc
  have hstate := Host.Outcome.next.inj ((execStoreLanes_eq haddr hb hacc hv).symm.trans hexec)
  have hparams : t.params = s.params := by rw [← hstate]; rfl
  have hbuffer : t.buffer mem =
      some (storeLanes s.params.laneMapping b addr ((lanes s.params.laneMapping W v).take n)) := by
    rw [← hstate]
    exact State.buffer_setBuffer_same hb _
  have hbwf : b.wf = true := Memory.wf_find ((State.wf_iff s).1 hs).2 hb
  have hcount := length_take_lanes s.params.laneMapping v hn
  have hload := loadLanes_storeLanes s.params.laneMapping hW hbwf (addr := addr)
    ((lanes s.params.laneMapping W v).take n) (by rwa [hcount])
  rw [hcount] at hload
  rw [execLoadLanes_eq (by rwa [hparams]) hbuffer ⟨_, hbuffer, by rwa [storeLanes_len], by rwa [hparams]⟩ hd, hparams,
    hload]

/-- A full store and load: all the lanes of a vector make the vector. -/
theorem execLoadLanes_after_full_store {W : Nat} (hpos : 0 < W) (hW : 8 ∣ W) (hdvd : W ∣ 128) {s t : State}
    {d mem : Ident} {addr : Nat} {data : VOperand} {v : V128} (hs : s.wf = true) (hv : Holds kV128 s data v)
    (hexec : execStoreLanes s mem addr data W (128 / W) = .next t) (ht : t.fault = none) (hd : t.accepts d .v128 = true) :
    execLoadLanes t d mem addr W (128 / W) = .next (t.retire d (.v128 v)) := by
  rw [execLoadLanes_after_store hW le_rfl hs hv hexec ht hd, List.take_of_length_le (lanes_length _ _ _).le,
    ofLanes_lanes _ hpos hdvd]

/-- A partial store and load: the lanes stored, and zero lanes after them. -/
theorem execLoadLanes_after_partial_store {W n : Nat} (hpos : 0 < W) (hW : 8 ∣ W) (hn : n ≤ 128 / W) {s t : State}
    {d mem : Ident} {addr : Nat} {data : VOperand} {v : V128} (hs : s.wf = true) (hv : Holds kV128 s data v)
    (hexec : execStoreLanes s mem addr data W n = .next t) (ht : t.fault = none) (hd : t.accepts d .v128 = true) :
    ∃ w, execLoadLanes t d mem addr W n = .next (t.retire d (.v128 w)) ∧
      ∀ i < 128 / W, lane s.params.laneMapping W w i = if i < n then lane s.params.laneMapping W v i else 0 :=
  ⟨_, execLoadLanes_after_store hW hn hs hv hexec ht hd, fun _ hi => lane_ofLanes_take _ v hpos hi⟩

/-! ### The statements -/

/-- Settles O43: each of the four is the load of all the lanes at its width. -/
theorem fullLoads : Obligations.FullLoads := by
  refine ⟨?w8, ?w16, ?w32, ?w64⟩
  case w8 => exact load_lanes (by decide) (by decide) (by decide) fun _ _ _ _ => rfl
  case w16 => exact load_lanes (by decide) (by decide) (by decide) fun _ _ _ _ => rfl
  case w32 => exact load_lanes (by decide) (by decide) (by decide) fun _ _ _ _ => rfl
  case w64 => exact load_lanes (by decide) (by decide) (by decide) fun _ _ _ _ => rfl

/-- Settles O44: each of the three is the load of its number of 32-bit lanes. -/
theorem partialLoads : Obligations.PartialLoads := by
  refine ⟨?one, ?two, ?three⟩
  case one => exact load_lanes (by decide) (by decide) (by decide) fun _ _ _ _ => rfl
  case two => exact load_lanes (by decide) (by decide) (by decide) fun _ _ _ _ => rfl
  case three => exact load_lanes (by decide) (by decide) (by decide) fun _ _ _ _ => rfl

/-- Settles O45: each of the four is the store of all the lanes at its width. -/
theorem fullStores : Obligations.FullStores := by
  refine ⟨?w8, ?w16, ?w32, ?w64⟩
  case w8 => exact store_lanes (by decide) fun _ _ _ _ => rfl
  case w16 => exact store_lanes (by decide) fun _ _ _ _ => rfl
  case w32 => exact store_lanes (by decide) fun _ _ _ _ => rfl
  case w64 => exact store_lanes (by decide) fun _ _ _ _ => rfl

/-- Settles O46: each of the three is the store of its number of 32-bit lanes. -/
theorem partialStores : Obligations.PartialStores := by
  refine ⟨?one, ?two, ?three⟩
  case one => exact store_lanes (by decide) fun _ _ _ _ => rfl
  case two => exact store_lanes (by decide) fun _ _ _ _ => rfl
  case three => exact store_lanes (by decide) fun _ _ _ _ => rfl

/-- Settles O56: the four full pairs are one lemma at their widths, the three partial ones another at their numbers of lanes. -/
theorem storeThenLoad : Obligations.StoreThenLoad := by
  refine ⟨fun s t d mem addr data v hs hv h ht hd => ?w8, fun s t d mem addr data v hs hv h ht hd => ?w16,
    fun s t d mem addr data v hs hv h ht hd => ?w32, fun s t d mem addr data v hs hv h ht hd => ?w64,
    fun s t d mem addr data v hs hv h ht hd => ?one, fun s t d mem addr data v hs hv h ht hd => ?two,
    fun s t d mem addr data v hs hv h ht hd => ?three⟩
  case w8 => exact execLoadLanes_after_full_store (W := 8) (by decide) (by decide) (by decide) hs hv h ht hd
  case w16 => exact execLoadLanes_after_full_store (W := 16) (by decide) (by decide) (by decide) hs hv h ht hd
  case w32 => exact execLoadLanes_after_full_store (W := 32) (by decide) (by decide) (by decide) hs hv h ht hd
  case w64 => exact execLoadLanes_after_full_store (W := 64) (by decide) (by decide) (by decide) hs hv h ht hd
  case one => exact execLoadLanes_after_partial_store (W := 32) (by decide) (by decide) (by decide) hs hv h ht hd
  case two => exact execLoadLanes_after_partial_store (W := 32) (by decide) (by decide) (by decide) hs hv h ht hd
  case three => exact execLoadLanes_after_partial_store (W := 32) (by decide) (by decide) (by decide) hs hv h ht hd

end Sys2Proof.Machine
end

section
/-! Sign operations, minimum and maximum (47_fp_sign_minmax.md R460 to R467): which bits `neg` and `abs` change, and why what the
model chooses between two data is an extremum of them in the order of R157. -/

namespace Sys2Proof.Machine

variable {W : Nat}

/-! ### Bits of a negated and of an absolute datum (R156) -/

/-- The mask of `ieee.negate` is the sign bit alone. -/
theorem getLsbD_fpNegate (hW : 0 < W) (x : BitVec W) (k : Nat) :
    (fpNegate x).getLsbD k = if k = W - 1 then !x.getLsbD k else x.getLsbD k := by
  rw [fpNegate, BitVec.getLsbD_xor, BitVec.getLsbD_ofNat, Nat.testBit_two_pow]
  split_ifs with hk
  · subst hk
    simp [hW]
  · simp [Ne.symm hk]

/-- The mask of `ieee.abs` is every bit below the sign bit. -/
theorem getLsbD_fpAbs (x : BitVec W) (k : Nat) :
    (fpAbs x).getLsbD k = if k = W - 1 then false else x.getLsbD k := by
  rw [fpAbs, BitVec.getLsbD_and, BitVec.getLsbD_ofNat, Nat.testBit_two_pow_sub_one]
  split_ifs with hk
  · simp [hk]
  · by_cases hlt : k < W
    · simp [hlt, show k < W - 1 by omega]
    · simp [BitVec.getLsbD_of_ge x k (by omega)]

section
variable {f : Fmt W}

/-! ### Zeros -/

/-- A datum is packed from its sign and its code. -/
theorem Fmt.Regular.pack_signbit_code (hf : f.Regular) (x : BitVec W) : f.pack (signbit x) 0 (f.code x) = x := by
  have hx : x.toNat < 2 ^ (f.expBits + f.fracBits) + 2 ^ (f.expBits + f.fracBits) := by
    have h := x.isLt
    rwa [show 2 ^ W = 2 ^ (f.expBits + f.fracBits + 1) from congrArg _ hf.width, Nat.pow_succ, Nat.mul_two] at h
  have hcode : f.code x < 2 ^ (f.expBits + f.fracBits) := Nat.mod_lt _ (Nat.two_pow_pos _)
  apply BitVec.eq_of_toNat_eq
  rw [hf.toNat_pack _ hcode, Fmt.code, signbit, BitVec.msb_eq_decide, hf.width_pred]
  by_cases hs : 2 ^ (f.expBits + f.fracBits) ≤ x.toNat
  · rw [decide_eq_true hs, if_pos rfl, Nat.mod_eq_sub_mod hs, Nat.mod_eq_of_lt (by omega), Nat.add_sub_cancel' hs]
  · simp [hs, Nat.mod_eq_of_lt (Nat.not_le.1 hs)]

/-- There is one zero of each sign (R133). -/
theorem Fmt.Regular.eq_zero_of_iszero (hf : f.Regular) {x : BitVec W} (h : f.iszero x = true) : x = f.zero (signbit x) := by
  conv_lhs => rw [← hf.pack_signbit_code x, (f.iszero_iff x).1 h]
  rfl

/-- Of two zeros of opposite sign, one is the zero of a sign given. -/
theorem Fmt.Regular.zero_eq_or_of_signbit_ne (hf : f.Regular) (s : Bool) {x y : BitVec W} (hx : f.iszero x = true)
    (hy : f.iszero y = true) (hne : signbit x ≠ signbit y) : f.zero s = x ∨ f.zero s = y := by
  by_cases hs : signbit x = s
  · exact .inl (hs ▸ (hf.eq_zero_of_iszero hx).symm)
  · have hs' : signbit y = s := by
      by_contra hs'
      exact hne ((Bool.eq_not.2 hs).trans (Bool.eq_not.2 hs').symm)
    exact .inr (hs' ▸ (hf.eq_zero_of_iszero hy).symm)

theorem Fmt.val_eq_zero_of_iszero (f : Fmt W) {x : BitVec W} (h : f.iszero x = true) : f.val x = 0 := by
  rw [← abs_eq_zero, f.abs_val, (f.iszero_iff x).1 h, f.magOf_zero, Nat.cast_zero]

theorem Fmt.zerosDiffer_iff (f : Fmt W) (x y : BitVec W) :
    f.zerosDiffer x y = true ↔ f.iszero x = true ∧ f.iszero y = true ∧ signbit x ≠ signbit y := by
  simp [Fmt.zerosDiffer, and_assoc]

/-! ### The order (R157) -/

theorem Fmt.Regular.less_asymm (hf : f.Regular) {x y : BitVec W} (h : f.Less x y) : ¬ f.Less y x := by
  rw [hf.less_iff] at h ⊢
  omega

/-- Zeros have one value, whatever their signs. -/
theorem Fmt.Regular.not_less_of_iszero (hf : f.Regular) {x y : BitVec W} (hx : f.iszero x = true) (hy : f.iszero y = true) :
    ¬ f.Less x y := by
  rw [hf.less_iff, f.val_eq_zero_of_iszero hx, f.val_eq_zero_of_iszero hy]
  exact fun ⟨_, _, hlt⟩ => lt_irrefl 0 hlt

/-! ### Extrema (R464, R465) -/

/-- The choice the model makes is an extremum in any order that is asymmetric and does not order the zeros: of zeros of opposite
sign it is the one of sign `s`, and otherwise `x` exactly when it comes before `y`. -/
theorem Fmt.Regular.extremum_of_choice (hf : f.Regular) {less : BitVec W → BitVec W → Prop} (s : Bool) {x y : BitVec W}
    {before : Bool} (hbefore : before = true ↔ less x y) (hasymm : ∀ {a b}, less a b → ¬ less b a)
    (hzero : ∀ {a b}, f.iszero a = true → f.iszero b = true → ¬ less a b) :
    f.Extremum less s x y (if f.zerosDiffer x y then f.zero s else if before then x else y) := by
  have hirrefl : ∀ a, ¬ less a a := fun _ h => hasymm h h
  by_cases hdiffer : f.zerosDiffer x y = true
  · obtain ⟨hx, hy, hne⟩ := (f.zerosDiffer_iff x y).1 hdiffer
    have hs : f.iszero (f.zero s) = true := (f.iszero_iff _).2 (hf.code_zero s)
    rw [if_pos hdiffer]
    exact ⟨hf.zero_eq_or_of_signbit_ne s hx hy hne, hzero hx hs, hzero hy hs, fun _ _ _ => rfl⟩
  · have hsame : f.iszero x = true → f.iszero y = true → signbit x ≠ signbit y → False :=
      fun hx hy hne => hdiffer ((f.zerosDiffer_iff x y).2 ⟨hx, hy, hne⟩)
    rw [if_neg hdiffer]
    split_ifs with hlt
    · exact ⟨.inl rfl, hirrefl x, hasymm (hbefore.1 hlt), fun hx hy hne => (hsame hx hy hne).elim⟩
    · exact ⟨.inr rfl, mt hbefore.2 hlt, hirrefl y, fun hx hy hne => (hsame hx hy hne).elim⟩

theorem Fmt.Regular.lesser_extremum (hf : f.Regular) (x y : BitVec W) : f.Extremum f.Less true x y (f.lesser x y) :=
  hf.extremum_of_choice true (hf.lt_iff x y) hf.less_asymm hf.not_less_of_iszero

theorem Fmt.Regular.greater_extremum (hf : f.Regular) (x y : BitVec W) :
    f.Extremum (fun a b => f.Less b a) false x y (f.greater x y) :=
  hf.extremum_of_choice false (hf.gt_iff x y) hf.less_asymm fun ha hb => hf.not_less_of_iszero hb ha

/-! ### NaN operands (R144, R464 to R467) -/

/-- The NaN propagated is an operand, and quieted. -/
theorem Fmt.propagateNaN_eq_quiet (f : Fmt W) (n : Nat) {x y : BitVec W} (h : f.isnan x = true ∨ f.isnan y = true) :
    (f.isnan x = true ∧ f.propagateNaN n x y = f.quiet x) ∨ (f.isnan y = true ∧ f.propagateNaN n x y = f.quiet y) := by
  rw [Fmt.propagateNaN]
  by_cases hx : f.isnan x = true
  · by_cases hy : f.isnan y = true
    · cases Config.drawBool n with
      | true => exact .inl ⟨hx, by simp [hx, hy]⟩
      | false => exact .inr ⟨hy, by simp [hx, hy]⟩
    · exact .inl ⟨hx, by simp [hx, hy]⟩
  · exact .inr ⟨h.resolve_left hx, by simp [hx]⟩

section
variable {less : BitVec W → BitVec W → Prop} {s : Bool} {x y z : BitVec W}

/-- A NaN before an extremum: what `min` and `max` have in common. -/
theorem Fmt.Extremum.propagating (n : Nat) (hz : f.Extremum less s x y z) :
    f.ExtremumNaN less s x y (if f.isnan x || f.isnan y then f.propagateNaN n x y else z) := by
  simp only [Fmt.ExtremumNaN, Bool.or_eq_true]
  split_ifs with hnan
  · exact f.propagateNaN_eq_quiet n hnan
  · exact hz

/-- A number before a NaN: what `minNum` and `maxNum` have in common. -/
theorem Fmt.Extremum.dropping (n : Nat) (hz : f.Extremum less s x y z) :
    f.ExtremumNum less s x y
      (if f.isnan x && f.isnan y then f.propagateNaN n x y else if f.isnan x then y else if f.isnan y then x else z) := by
  refine ⟨fun hx hy => ?both, fun hx hy => by simp [hx, hy], fun hx hy => by simp [hx, hy], fun hx hy => ?none⟩
  case both =>
    rw [hx, hy]
    exact (f.propagateNaN_eq_quiet n (.inl hx)).imp And.right And.right
  case none =>
    rw [hx, hy]
    exact hz

end

theorem Fmt.Regular.min_extremumNaN (hf : f.Regular) (n : Nat) (x y : BitVec W) :
    f.ExtremumNaN f.Less true x y (f.min n x y) :=
  (hf.lesser_extremum x y).propagating n

theorem Fmt.Regular.max_extremumNaN (hf : f.Regular) (n : Nat) (x y : BitVec W) :
    f.ExtremumNaN (fun a b => f.Less b a) false x y (f.max n x y) :=
  (hf.greater_extremum x y).propagating n

theorem Fmt.Regular.minNum_extremumNum (hf : f.Regular) (n : Nat) (x y : BitVec W) :
    f.ExtremumNum f.Less true x y (f.minNum n x y) :=
  (hf.lesser_extremum x y).dropping n

theorem Fmt.Regular.maxNum_extremumNum (hf : f.Regular) (n : Nat) (x y : BitVec W) :
    f.ExtremumNum (fun a b => f.Less b a) false x y (f.maxNum n x y) :=
  (hf.greater_extremum x y).dropping n

end

/-! ### The statements -/

/-- Settles O47: each of the four applies a mask to every lane, with no regard to its class. -/
theorem floatSignOperations : Obligations.FloatSignOperations := by
  refine ⟨?neg32, ?neg64, ?abs32, ?abs64⟩
  case neg32 => exact unaryLanes_of_lanewise (fun _ => getLsbD_fpNegate (by decide)) (by decide) (by decide) fun _ _ _ => rfl
  case neg64 => exact unaryLanes_of_lanewise (fun _ => getLsbD_fpNegate (by decide)) (by decide) (by decide) fun _ _ _ => rfl
  case abs32 => exact unaryLanes_of_lanewise (fun _ => getLsbD_fpAbs) (by decide) (by decide) fun _ _ _ => rfl
  case abs64 => exact unaryLanes_of_lanewise (fun _ => getLsbD_fpAbs) (by decide) (by decide) fun _ _ _ => rfl

/-- Settles O48: a NaN operand is propagated, and the choice between two data that are no NaNs is an extremum, in the order of
R157 for the minimum and in the converse order for the maximum. -/
theorem floatMinMax : Obligations.FloatMinMax := by
  have h32 := binary32_regular
  have h64 := binary64_regular
  refine ⟨?min32, ?min64, ?max32, ?max64⟩
  case min32 =>
    exact binaryLanes_of_draw (F := fun _ => binary32.min) (by decide) (by decide) (fun _ _ _ _ => rfl)
      fun _ => h32.min_extremumNaN
  case min64 =>
    exact binaryLanes_of_draw (F := fun _ => binary64.min) (by decide) (by decide) (fun _ _ _ _ => rfl)
      fun _ => h64.min_extremumNaN
  case max32 =>
    exact binaryLanes_of_draw (F := fun _ => binary32.max) (by decide) (by decide) (fun _ _ _ _ => rfl)
      fun _ => h32.max_extremumNaN
  case max64 =>
    exact binaryLanes_of_draw (F := fun _ => binary64.max) (by decide) (by decide) (fun _ _ _ _ => rfl)
      fun _ => h64.max_extremumNaN

/-- Settles O49: a single NaN is dropped and two are propagated, and data that are no NaNs are chosen between as in `min` and
`max`. -/
theorem floatMinNumMaxNum : Obligations.FloatMinNumMaxNum := by
  have h32 := binary32_regular
  have h64 := binary64_regular
  refine ⟨?min32, ?min64, ?max32, ?max64⟩
  case min32 =>
    exact binaryLanes_of_draw (F := fun _ => binary32.minNum) (by decide) (by decide) (fun _ _ _ _ => rfl)
      fun _ => h32.minNum_extremumNum
  case min64 =>
    exact binaryLanes_of_draw (F := fun _ => binary64.minNum) (by decide) (by decide) (fun _ _ _ _ => rfl)
      fun _ => h64.minNum_extremumNum
  case max32 =>
    exact binaryLanes_of_draw (F := fun _ => binary32.maxNum) (by decide) (by decide) (fun _ _ _ _ => rfl)
      fun _ => h32.maxNum_extremumNum
  case max64 =>
    exact binaryLanes_of_draw (F := fun _ => binary64.maxNum) (by decide) (by decide) (fun _ _ _ _ => rfl)
      fun _ => h64.maxNum_extremumNum

end Sys2Proof.Machine
end

section
/-! What a step leaves of the launch, and what it can do (10_state.md R48, R54, 60_exceptions.md R601, R608, 70_reset_and_hazards.md
R641, R642): each is read off the effect that a step has. -/

namespace Sys2Proof.Machine

/-! ### The launch -/

/-- A Buffer replaced by one of its length leaves the length of every Buffer. -/
theorem State.len_setBuffer {s : State} {m : Ident} {b b' : Buffer} (hb : s.buffer m = some b) (hl : b'.len = b.len)
    (m' : Ident) : ((s.setBuffer m b').buffer m').map Buffer.len = (s.buffer m').map Buffer.len := by
  rw [State.buffer_eq, State.setBuffer_mem]
  by_cases h : m' = m
  · subst h
    rw [Memory.find_update_same, ← State.buffer_eq, hb]
    simp [hl]
  · rw [Memory.find_update_other h, ← State.buffer_eq]

/-- Settles O8: a fault and a result leave program, parameters and Buffers, and a store replaces the content of one Buffer. -/
theorem launchFixed : Obligations.LaunchFixed := by
  intro s t h
  obtain ⟨-, is, i, -, -, hexec⟩ := step_next h
  cases exec_effect hexec with
  | unwritten x => exact ⟨rfl, rfl, rfl, fun _ => rfl⟩
  | range m a n => exact ⟨rfl, rfl, rfl, fun _ => rfl⟩
  | wrote ds n => exact ⟨by simp, by simp, by simp, fun m => by simp [State.buffer_eq]⟩
  | stored m b b' _ hb hl => exact ⟨rfl, rfl, by simp, State.len_setBuffer hb hl⟩

/-! ### The outcomes of a step -/

/-- An effect raises a fault, or goes on to the next statement without one. -/
theorem Effect.advances_or_raises {s t : State} {dests : List (Ident × Ty)} {buffer : Option Ident}
    (h : Effect s dests buffer t) : (t.pc = s.pc + 1 ∧ t.fault = s.fault) ∨ ∃ f, t = s.raise f := by
  cases h with
  | unwritten x => exact .inr ⟨_, rfl⟩
  | range m a n => exact .inr ⟨_, rfl⟩
  | wrote ds n => exact .inl ⟨by simp, by simp⟩
  | stored m b b' => exact .inl ⟨rfl, rfl⟩

theorem step_of_fault {s : State} {f : Fault} (h : s.fault = some f) : step s = .fault f := by
  simp [step, h]

/-- Settles O6: a step to a next state has one of the effects, and raising sets one field. -/
theorem stepOutcomes : Obligations.StepOutcomes := by
  refine ⟨fun s t h => ?next, fun s f => step_of_fault, fun s f => ?raised⟩
  case next =>
    obtain ⟨hf, is, i, -, -, hexec⟩ := step_next h
    exact ⟨hf, hf ▸ (exec_effect hexec).advances_or_raises⟩
  case raised => exact ⟨rfl, rfl, fun _ => rfl, fun _ _ => rfl⟩

/-! ### Reset -/

/-- Settles O10: no slot is listed, and the memory of the reset state is canonical. -/
theorem resetHasCanonicalForm : Obligations.ResetHasCanonicalForm :=
  (State.wf_iff _).2 ⟨rfl, State.reset_mem_wf⟩

/-- Settles O11, by the fields of the reset state. -/
theorem resetState : Obligations.ResetState :=
  ⟨fun _ => rfl, rfl, rfl, rfl⟩

end Sys2Proof.Machine
end

section
/-! What decides the outcome of a statement that passes its checks (60_exceptions.md R603, R604, R607, R613): first the slots it
reads, in signature order, then for a load or store whether its bytes are in range, and nothing else. -/

namespace Sys2Proof.Machine

/-! ### Reading operands in order (R604, R607) -/

/-- The slots among these that no statement has written, in order. -/
def State.unwritten (s : State) (es : List (Ident × Ty)) : List Ident :=
  (es.map Prod.fst).filter fun x => (s.slot x).isNone

theorem unwrittenReads_eq (st : Statement) (s : State) : unwrittenReads st s = s.unwritten (st.args.flatMap Arg.reads) := rfl

/-- What is read goes by the unwritten slots among those examined: a value when there is none, and the first of them otherwise. -/
inductive Got.Finds {α : Type} : Got α → List Ident → Prop
  | val (a : α) : Finds (.val a) []
  | unwritten (x : Ident) (rest : List Ident) : Finds (.unwritten x) (x :: rest)

theorem Got.Finds.both {α β : Type} {g : Got α} {h : Got β} {xs ys : List Ident} (hg : g.Finds xs) (hh : h.Finds ys) :
    (g.both h).Finds (xs ++ ys) := by
  cases hg with
  | unwritten x rest => cases hh <;> exact .unwritten x _
  | val a =>
    cases hh with
    | unwritten y rest => exact .unwritten y rest
    | val b => exact .val (a, b)

theorem Got.Finds.map {α β : Type} {g : Got α} {xs : List Ident} (f : α → β) (hg : g.Finds xs) : (g.map f).Finds xs := by
  cases hg with
  | unwritten x rest => exact .unwritten x rest
  | val a => exact .val (f a)

/-- What is read of some operands when every slot they read is unwritten or of the type asked for. -/
def Examines {α : Type} (s : State) (args : List Arg) (g : Got α) : Prop :=
  (∀ e ∈ args.flatMap Arg.reads, s.accepts e.1 e.2 = true) → g.Finds (s.unwritten (args.flatMap Arg.reads))

theorem read_finds {lit val : Type} {k : Kind lit val} (hk : k.Lawful) {s : State} {o : Operand lit}
    (h : ∀ e ∈ o.reads k.ty, s.accepts e.1 e.2 = true) : (read k s o).Finds (s.unwritten (o.reads k.ty)) := by
  cases o with
  | lit l => exact .val _
  | slot x =>
    have hx : s.accepts x k.ty = true := h _ (.head _)
    cases hv : s.slot x with
    | none => simpa [read, State.unwritten, Operand.reads, hv] using Got.Finds.unwritten x []
    | some v =>
      obtain ⟨a, ha⟩ := Option.isSome_iff_exists.1 (hk.proj_ty v (by simpa [State.accepts, hv] using hx))
      simpa [read, State.unwritten, Operand.reads, hv, ha] using Got.Finds.val a

theorem readList_finds {lit val : Type} {k : Kind lit val} (hk : k.Lawful) {s : State} {os : List (Operand lit)}
    (h : ∀ e ∈ os.flatMap (Operand.reads k.ty), s.accepts e.1 e.2 = true) :
    (readList k s os).Finds (s.unwritten (os.flatMap (Operand.reads k.ty))) := by
  induction os with
  | nil => exact .val _
  | cons o r ih =>
    rw [List.flatMap_cons, List.forall_mem_append] at h
    have hboth := (read_finds hk h.1).both (ih h.2)
    rw [State.unwritten, State.unwritten, ← List.filter_append, ← List.map_append, ← List.flatMap_cons] at hboth
    exact hboth.map _

section
variable {s : State}

theorem Examines.one {α : Type} {a : Arg} {g : Got α}
    (h : (∀ e ∈ a.reads, s.accepts e.1 e.2 = true) → g.Finds (s.unwritten a.reads)) : Examines s [a] g := by
  simpa [Examines] using h

theorem examines_vector (a : VOperand) : Examines s [.vector a] (read kV128 s a) := .one (read_finds kV128_lawful)

theorem examines_mask {n : Nat} {k : Kind (Lanes Bool n) (Lanes Bool n)} (hk : k.Lawful) (a : Operand (Lanes Bool n)) :
    Examines s [.mask k.ty a] (read k s a) := .one (read_finds hk)

theorem examines_scalar {W : Nat} {k : Kind (BitVec W) (BitVec W)} (hk : k.Lawful) (x : Operand (BitVec W)) :
    Examines s [.scalar k.ty x] (read k s x) := .one (read_finds hk)

theorem examines_boolean (x : Operand Bool) : Examines s [.boolean x] (read kBool s x) := .one (read_finds kBool_lawful)

theorem examines_scalars {W n : Nat} {k : Kind (BitVec W) (BitVec W)} (hk : k.Lawful) (x : Lanes (Operand (BitVec W)) n) :
    Examines s [.scalars k.ty x.toList] (readArray k s x) := .one fun h => (readList_finds hk h).map _

theorem examines_booleans {n : Nat} (x : Lanes (Operand Bool) n) : Examines s [.booleans x.toList] (readArray kBool s x) :=
  .one fun h => (readList_finds kBool_lawful h).map _

/-- The operands are examined in signature order. -/
theorem Examines.both {α β : Type} {as bs : List Arg} {g : Got α} {h : Got β} (hg : Examines s as g) (hh : Examines s bs h) :
    Examines s (as ++ bs) (g.both h) := by
  intro hfit
  rw [List.flatMap_append, List.forall_mem_append] at hfit
  have hboth := (hg hfit.1).both (hh hfit.2)
  rwa [State.unwritten, State.unwritten, ← List.filter_append, ← List.map_append, ← List.flatMap_append] at hboth

theorem examines_vectors (a b : VOperand) : Examines s [.vector a, .vector b] ((read kV128 s a).both (read kV128 s b)) :=
  (examines_vector a).both (examines_vector b)

/-- An operand that stands in the statement as a literal is no slot to examine. -/
theorem Examines.literal {α : Type} {as : List Arg} {g : Got α} (hg : Examines s as g) (b : Arg) (hb : b.reads = [] := by rfl) :
    Examines s (as ++ [b]) g := by
  simpa [Examines, hb] using hg

end

/-! ### The outcomes, and what decides among them (R613) -/

/-- The next state of a statement that fits: which of the three outcomes of R613 it is, and why. -/
inductive Decides (st : Statement) (s : State) : State → Prop
  | executed {t : State} (hread : unwrittenReads st s = []) (hrange : ∀ m a n, Accesses st m a n → Accessible s m a n)
      (hpc : t.pc = s.pc + 1) (hfault : t.fault = s.fault) : Decides st s t
  | unwritten {x : Ident} {rest : List Ident} (hread : unwrittenReads st s = x :: rest) :
      Decides st s (s.raise (.unwrittenSlot x))
  | range {m : Ident} {a n : Nat} (hread : unwrittenReads st s = []) (hacc : Accesses st m a n) (hrange : ¬ Accessible s m a n) :
      Decides st s (s.raise (.bufferRange m a n))

/-- A statement accesses at most one range of bytes. -/
theorem Accesses.unique {st : Statement} {m m' : Ident} {a a' n n' : Nat} (h : Accesses st m a n) (h' : Accesses st m' a' n') :
    m = m' ∧ a = a' ∧ n = n' := by
  obtain ⟨hm, ha, hn⟩ := h
  obtain ⟨hm', ha', hn'⟩ := h'
  exact ⟨Option.some.inj (hm.symm.trans hm'), Option.some.inj (ha.symm.trans ha'), Option.some.inj (hn.symm.trans hn')⟩

/-- The outcome is a next state that `Decides` allows. -/
def Decided (st : Statement) (s : State) (o : Out) : Prop := ∃ t, o = .next t ∧ Decides st s t

/-- When the checks pass, an unwritten slot decides before the operation does. -/
theorem withOperands_decided {α : Type} {st : Statement} {s : State} {g : Got α} {k : α → Out} (hfit : StatementFits st s)
    (hg : g.Finds (unwrittenReads st s)) (hk : ∀ a, g = .val a → unwrittenReads st s = [] → Decided st s (k a)) :
    Decided st s (withOperands s st.dests st.buffer? g k) := by
  generalize hread : unwrittenReads st s = xs at hg hk
  cases hg with
  | unwritten x rest => exact ⟨_, withOperands_unwritten k rfl hfit.dests hfit.buffer hfit.distinct, .unwritten hread⟩
  | val a =>
    rw [withOperands_val k rfl hfit.dests hfit.buffer hfit.distinct]
    exact hk a rfl rfl

section
variable {s : State} {m : Mnemonic} {d : Ident} {args : List Arg}

/-- A statement that names no Buffer and whose operation writes results, executes once its operands are read. -/
theorem withOperands_decided_of_noBuffer {α : Type} {ds : List (Ident × Ty)} {g : Got α} {k : α → Out}
    (hfit : StatementFits ⟨m, ds, args⟩ s) (hg : Examines s args g) (hb : args.findSome? Arg.buffer? = none)
    (hk : ∀ a, ∃ t, k a = .next t ∧ t.pc = s.pc + 1 ∧ t.fault = s.fault) :
    Decided ⟨m, ds, args⟩ s (withOperands s ds none g k) := by
  have hnone : (Statement.mk m ds args).buffer? = none := hb
  have hfinds := unwrittenReads_eq ⟨m, ds, args⟩ s ▸ hg hfit.reads
  have h := withOperands_decided (k := k) hfit hfinds fun a _ hread => by
    obtain ⟨t, ht, hpc, hfault⟩ := hk a
    exact ⟨t, ht, .executed hread (fun _ _ _ hacc => by simp [Accesses, hnone] at hacc) hpc hfault⟩
  rwa [hnone] at h

theorem exec1_decided {α lit val : Type} {k : Kind lit val} {g : Got α} {f : α → val}
    (hfit : StatementFits ⟨m, [(d, k.ty)], args⟩ s) (hg : Examines s args g)
    (hb : args.findSome? Arg.buffer? = none := by rfl) :
    Decided ⟨m, [(d, k.ty)], args⟩ s (exec1 s d k g f) :=
  withOperands_decided_of_noBuffer hfit hg hb fun _ => ⟨_, rfl, rfl, rfl⟩

theorem execDraw_decided {α : Type} {n : Nat} {g : Got α} {f : Nat → α → V128}
    (hfit : StatementFits ⟨m, [(d, .v128)], args⟩ s) (hg : Examines s args g)
    (hb : args.findSome? Arg.buffer? = none := by rfl) :
    Decided ⟨m, [(d, .v128)], args⟩ s (execDraw s d n g f) :=
  withOperands_decided_of_noBuffer hfit hg hb fun _ => ⟨_, rfl, rfl, rfl⟩

theorem drawBinary_decided {n : Nat} {a b : VOperand} {f : Nat → V128 → V128 → V128}
    (hfit : StatementFits ⟨m, [(d, .v128)], args⟩ s) (hg : Examines s args ((read kV128 s a).both (read kV128 s b)))
    (hb : args.findSome? Arg.buffer? = none := by rfl) : Decided ⟨m, [(d, .v128)], args⟩ s (drawBinary s d n a b f) :=
  execDraw_decided hfit hg hb

theorem execCvt_decided {d₂ : Ident} {a : VOperand} {f : Nat → V128 → V128 × Bool}
    (hfit : StatementFits ⟨m, [(d, .v128), (d₂, .boolean)], [.vector a]⟩ s) :
    Decided ⟨m, [(d, .v128), (d₂, .boolean)], [.vector a]⟩ s (execCvt s d d₂ (read kV128 s a) f) :=
  withOperands_decided_of_noBuffer hfit (examines_vector a) rfl fun _ => ⟨_, rfl, by simp, by simp⟩

/-- The operation of an access: in range it is done, and otherwise `BufferRange` is raised (R603). -/
theorem access_decided {st : Statement} {t : State} {mem : Ident} {b : Buffer} {addr n : Nat} (hb : s.buffer mem = some b)
    (hread : unwrittenReads st s = []) (hacc : Accesses st mem addr n) (hpc : t.pc = s.pc + 1) (hfault : t.fault = s.fault) :
    Decided st s (if inRange s.params b addr n then .next t else .next (s.raise (.bufferRange mem addr n))) := by
  split_ifs with hr
  · refine ⟨t, rfl, .executed hread (fun m' a' n' hacc' => ?_) hpc hfault⟩
    obtain ⟨rfl, rfl, rfl⟩ := hacc.unique hacc'
    exact (inRange_iff hb _ _).1 hr
  · exact ⟨_, rfl, .range hread hacc (mt (inRange_iff hb _ _).2 hr)⟩

theorem execLoadLanes_decided {mem : Ident} {addr W L : Nat}
    (hfit : StatementFits ⟨m, [(d, .v128)], [.buffer mem, .offset addr]⟩ s)
    (hn : accessBytes ⟨m, [(d, .v128)], [.buffer mem, .offset addr]⟩ = some (L * (W / 8)) := by rfl) :
    Decided ⟨m, [(d, .v128)], [.buffer mem, .offset addr]⟩ s (execLoadLanes s d mem addr W L) := by
  have hoffset := readOffset_of_lt (hfit.offset addr rfl)
  obtain ⟨b, hb⟩ := Option.isSome_iff_exists.1 (hfit.buffer mem rfl)
  refine withOperands_decided hfit (by rw [hoffset]; exact .val addr) fun a ha hread => ?_
  obtain rfl : addr = a := by simpa [hoffset] using ha
  simp only [hb]
  exact access_decided hb hread ⟨rfl, rfl, hn⟩ rfl rfl

theorem execStoreLanes_decided {mem : Ident} {addr W L : Nat} {data : VOperand}
    (hfit : StatementFits ⟨m, [], [.buffer mem, .offset addr, .vector data]⟩ s)
    (hn : accessBytes ⟨m, [], [.buffer mem, .offset addr, .vector data]⟩ = some (L * (W / 8)) := by rfl) :
    Decided ⟨m, [], [.buffer mem, .offset addr, .vector data]⟩ s (execStoreLanes s mem addr data W L) := by
  have hoffset := readOffset_of_lt (hfit.offset addr rfl)
  obtain ⟨b, hb⟩ := Option.isSome_iff_exists.1 (hfit.buffer mem rfl)
  have hdata : (read kV128 s data).Finds (unwrittenReads ⟨m, [], [.buffer mem, .offset addr, .vector data]⟩ s) :=
    examines_vector data hfit.reads
  refine withOperands_decided hfit (by rw [hoffset]; exact (Got.Finds.val addr).both hdata) fun p hp hread => ?_
  obtain ⟨v, rfl⟩ : ∃ v, p = (addr, v) := by
    cases hv : read kV128 s data <;> simp [hoffset, hv, Got.both] at hp
    exact ⟨_, hp.symm⟩
  simp only [hb]
  exact access_decided hb hread ⟨rfl, rfl, hn⟩ rfl rfl

end

/-- Every instruction that passes its checks is decided by its operands and its range, by the shape of its meaning. -/
theorem exec_decided {i : Instr} {s : State} (h : StatementFits i.statement s) : Decided i.statement s (exec i s) := by
  cases i
  -- build and splat
  iterate 4 exact exec1_decided h (examines_booleans _)
  · exact exec1_decided h (examines_scalars kI8_lawful _)
  · exact exec1_decided h (examines_scalars kI16_lawful _)
  · exact exec1_decided h (examines_scalars kI32_lawful _)
  · exact exec1_decided h (examines_scalars kI64_lawful _)
  · exact exec1_decided h (examines_scalars kF32_lawful _)
  · exact exec1_decided h (examines_scalars kF64_lawful _)
  iterate 4 exact exec1_decided h (examines_boolean _)
  · exact exec1_decided h (examines_scalar kI8_lawful _)
  · exact exec1_decided h (examines_scalar kI16_lawful _)
  · exact exec1_decided h (examines_scalar kI32_lawful _)
  · exact exec1_decided h (examines_scalar kI64_lawful _)
  · exact exec1_decided h (examines_scalar kF32_lawful _)
  · exact exec1_decided h (examines_scalar kF64_lawful _)
  -- extractLane, replaceLane, select, swizzle, shuffle
  · exact exec1_decided h ((examines_mask kB8x16_lawful _).literal _)
  · exact exec1_decided h ((examines_mask kB16x8_lawful _).literal _)
  · exact exec1_decided h ((examines_mask kB32x4_lawful _).literal _)
  · exact exec1_decided h ((examines_mask kB64x2_lawful _).literal _)
  iterate 6 exact exec1_decided h ((examines_vector _).literal _)
  · exact exec1_decided h (((examines_mask kB8x16_lawful _).literal _).both (examines_boolean _))
  · exact exec1_decided h (((examines_mask kB16x8_lawful _).literal _).both (examines_boolean _))
  · exact exec1_decided h (((examines_mask kB32x4_lawful _).literal _).both (examines_boolean _))
  · exact exec1_decided h (((examines_mask kB64x2_lawful _).literal _).both (examines_boolean _))
  · exact exec1_decided h (((examines_vector _).literal _).both (examines_scalar kI8_lawful _))
  · exact exec1_decided h (((examines_vector _).literal _).both (examines_scalar kI16_lawful _))
  · exact exec1_decided h (((examines_vector _).literal _).both (examines_scalar kI32_lawful _))
  · exact exec1_decided h (((examines_vector _).literal _).both (examines_scalar kI64_lawful _))
  · exact exec1_decided h (((examines_vector _).literal _).both (examines_scalar kF32_lawful _))
  · exact exec1_decided h (((examines_vector _).literal _).both (examines_scalar kF64_lawful _))
  · exact exec1_decided h ((examines_mask kB8x16_lawful _).both (examines_vectors _ _))
  · exact exec1_decided h ((examines_mask kB16x8_lawful _).both (examines_vectors _ _))
  · exact exec1_decided h ((examines_mask kB32x4_lawful _).both (examines_vectors _ _))
  · exact exec1_decided h ((examines_mask kB64x2_lawful _).both (examines_vectors _ _))
  iterate 4 exact exec1_decided h ((examines_vector _).literal _)
  iterate 4 exact exec1_decided h ((examines_vectors _ _).literal _)
  -- integer arithmetic, saturating arithmetic, shifts
  iterate 12 exact exec1_decided h (examines_vectors _ _)
  iterate 4 exact exec1_decided h (examines_vector _)
  iterate 8 exact exec1_decided h (examines_vectors _ _)
  iterate 12 exact exec1_decided h ((examines_vector _).both (examines_scalar kI8_lawful _))
  -- logical and bitwise operations, reductions
  iterate 3
    · exact exec1_decided h ((examines_mask kB8x16_lawful _).both (examines_mask kB8x16_lawful _))
    · exact exec1_decided h ((examines_mask kB16x8_lawful _).both (examines_mask kB16x8_lawful _))
    · exact exec1_decided h ((examines_mask kB32x4_lawful _).both (examines_mask kB32x4_lawful _))
    · exact exec1_decided h ((examines_mask kB64x2_lawful _).both (examines_mask kB64x2_lawful _))
  · exact exec1_decided h (examines_mask kB8x16_lawful _)
  · exact exec1_decided h (examines_mask kB16x8_lawful _)
  · exact exec1_decided h (examines_mask kB32x4_lawful _)
  · exact exec1_decided h (examines_mask kB64x2_lawful _)
  iterate 3 exact exec1_decided h (examines_vectors _ _)
  · exact exec1_decided h (examines_vector _)
  iterate 2
    · exact exec1_decided h (examines_mask kB8x16_lawful _)
    · exact exec1_decided h (examines_mask kB16x8_lawful _)
    · exact exec1_decided h (examines_mask kB32x4_lawful _)
    · exact exec1_decided h (examines_mask kB64x2_lawful _)
  -- comparisons
  iterate 52 exact exec1_decided h (examines_vectors _ _)
  -- loads and stores
  iterate 4 exact execLoadLanes_decided h
  iterate 4 exact execStoreLanes_decided h
  iterate 3 exact execLoadLanes_decided h
  iterate 3 exact execStoreLanes_decided h
  -- floating-point sign, minimum and maximum
  iterate 4 exact exec1_decided h (examines_vector _)
  iterate 8 exact drawBinary_decided h (examines_vectors _ _)
  -- floating-point arithmetic and the approximations
  iterate 8 exact drawBinary_decided h ((examines_vectors _ _).literal _)
  iterate 2 exact execDraw_decided h ((examines_vector _).literal _)
  iterate 4 exact execDraw_decided h (examines_vector _)
  -- conversions
  iterate 4 exact exec1_decided h ((examines_vector _).literal _)
  iterate 4 exact execCvt_decided h

/-- An instruction that answers a next state passed its checks. -/
theorem fits_of_exec_next {i : Instr} {s t : State} (h : exec i s = .next t) : StatementFits i.statement s := by
  obtain ⟨α, g, k, ho, hill⟩ := exec_checked i s
  obtain ⟨hdests, hbuffer, hdistinct, hread⟩ := withOperands_next (ho.symm.trans h)
  have hgood : g.ill = false := by
    obtain ⟨x, rfl, -⟩ | ⟨a, rfl, -⟩ := hread <;> rfl
  obtain ⟨hreads, hoffset⟩ := hill.1 hgood
  exact ⟨hreads, hoffset, hdests, hbuffer, hdistinct⟩

/-- What decided the next state an instruction answered. -/
theorem decides_of_exec_next {i : Instr} {s t : State} (h : exec i s = .next t) : Decides i.statement s t := by
  obtain ⟨t', ht, hd⟩ := exec_decided (fits_of_exec_next h)
  obtain rfl : t = t' := by simpa [h] using ht
  exact hd

/-- Settles O15: the slots are examined before the operation, in order. -/
theorem unwrittenSlotRaised : Obligations.UnwrittenSlotRaised := by
  intro i s x rest hfit hx
  obtain ⟨t, ht, hd⟩ := exec_decided hfit
  rw [ht]
  cases hd with
  | executed hread => simp [hread] at hx
  | unwritten hread => simp_all
  | range hread => simp [hread] at hx

/-- Settles O17: of the three outcomes only one sets this fault. -/
theorem onlyAccessesRaiseBufferRange : Obligations.OnlyAccessesRaiseBufferRange := by
  intro i s t m a n h hs ht
  cases decides_of_exec_next h with
  | executed _ _ _ hfault => simp [hfault, hs] at ht
  | unwritten => cases ht
  | range _ hacc hrange =>
    cases ht
    exact ⟨hacc, hrange⟩

/-! ### Loads and stores out of range (R603) -/

/-- A slot operand that holds a value is written, with a value of its type. -/
theorem Holds.reads {lit val : Type} {k : Kind lit val} (hk : k.Lawful) {s : State} {o : Operand lit} {v : val}
    (h : Holds k s o v) : ∀ e ∈ o.reads k.ty, s.accepts e.1 e.2 = true ∧ (s.slot e.1).isSome = true := by
  cases o with
  | lit l => simp [Operand.reads]
  | slot x =>
    have hx : s.slot x = some (k.inj v) := h
    simp [Operand.reads, State.accepts, hx, hk.inj_ty]

/-- A statement that fits and reads no unwritten slot raises `BufferRange` when its bytes are not in range. -/
theorem exec_range {i : Instr} {s : State} {m : Ident} {a n : Nat} (hfit : StatementFits i.statement s)
    (hread : unwrittenReads i.statement s = []) (hacc : Accesses i.statement m a n) (hrange : ¬ Accessible s m a n) :
    exec i s = .next (s.raise (.bufferRange m a n)) := by
  obtain ⟨t, ht, hd⟩ := exec_decided hfit
  rw [ht]
  cases hd with
  | executed _ hall => exact absurd (hall m a n hacc) hrange
  | unwritten h => simp [hread] at h
  | range _ hacc' =>
    obtain ⟨rfl, rfl, rfl⟩ := hacc.unique hacc'
    rfl

theorem loadRaises {n : Nat} {mk : Ident → Ident → Nat → Instr} {mn : Mnemonic}
    (hs : ∀ d mem addr, (mk d mem addr).statement = ⟨mn, [(d, .v128)], [.buffer mem, .offset addr]⟩)
    (hn : ∀ d mem addr, accessBytes (mk d mem addr).statement = some n) : LoadRaises n mk := by
  intro s d mem addr haddr hb hrange hd
  refine exec_range ?_ ?_ ⟨?_, ?_, hn d mem addr⟩ hrange <;> rw [hs]
  · exact ⟨by simp [Statement.reads, Arg.reads], by rintro a ⟨⟩; exact haddr, accepts_all hd, by rintro m ⟨⟩; exact hb,
      rfl⟩
  · rfl
  · rfl
  · rfl

theorem storeRaises {n : Nat} {mk : Ident → Nat → VOperand → Instr} {mn : Mnemonic}
    (hs : ∀ mem addr data, (mk mem addr data).statement = ⟨mn, [], [.buffer mem, .offset addr, .vector data]⟩)
    (hn : ∀ mem addr data, accessBytes (mk mem addr data).statement = some n) : StoreRaises n mk := by
  intro s mem addr data v haddr hb hrange hv
  have hreads : ∀ e ∈ data.reads .v128, s.accepts e.1 e.2 = true ∧ (s.slot e.1).isSome = true := hv.reads kV128_lawful
  refine exec_range ?_ ?_ ⟨?_, ?_, hn mem addr data⟩ hrange <;> rw [hs]
  · refine ⟨fun e he => (hreads e ?_).1, by rintro a ⟨⟩; exact haddr, by simp, by rintro m ⟨⟩; exact hb, rfl⟩
    simpa [Statement.reads, Arg.reads] using he
  · have hwritten : ∀ e ∈ data.reads .v128, s.slot e.1 ≠ none := fun e he => Option.isSome_iff_ne_none.1 (hreads e he).2
    simpa [unwrittenReads, Statement.reads, Arg.reads] using hwritten
  · rfl
  · rfl

/-- Settles O16: each of the fourteen is the shape of a load or a store at its byte count. -/
theorem bufferRangeRaised : Obligations.BufferRangeRaised := by
  refine ⟨?load8, ?load16, ?load32, ?load64, ?load1, ?load2, ?load3,
    ?store8, ?store16, ?store32, ?store64, ?store1, ?store2, ?store3⟩
  case load8 => exact loadRaises (fun _ _ _ => rfl) fun _ _ _ => rfl
  case load16 => exact loadRaises (fun _ _ _ => rfl) fun _ _ _ => rfl
  case load32 => exact loadRaises (fun _ _ _ => rfl) fun _ _ _ => rfl
  case load64 => exact loadRaises (fun _ _ _ => rfl) fun _ _ _ => rfl
  case load1 => exact loadRaises (fun _ _ _ => rfl) fun _ _ _ => rfl
  case load2 => exact loadRaises (fun _ _ _ => rfl) fun _ _ _ => rfl
  case load3 => exact loadRaises (fun _ _ _ => rfl) fun _ _ _ => rfl
  case store8 => exact storeRaises (fun _ _ _ => rfl) fun _ _ _ => rfl
  case store16 => exact storeRaises (fun _ _ _ => rfl) fun _ _ _ => rfl
  case store32 => exact storeRaises (fun _ _ _ => rfl) fun _ _ _ => rfl
  case store64 => exact storeRaises (fun _ _ _ => rfl) fun _ _ _ => rfl
  case store1 => exact storeRaises (fun _ _ _ => rfl) fun _ _ _ => rfl
  case store2 => exact storeRaises (fun _ _ _ => rfl) fun _ _ _ => rfl
  case store3 => exact storeRaises (fun _ _ _ => rfl) fun _ _ _ => rfl

/-! ### States of one shape (R613) -/

section
variable {s t : State}

theorem SameShape.symm (h : SameShape s t) : SameShape t s :=
  ⟨fun x => (h.types x).symm, fun m => (h.lengths m).symm, h.offsetBits.symm⟩

theorem State.accepts_eq (s : State) (x : Ident) (τ : Ty) : s.accepts x τ = ((s.slot x).map Value.ty).all (· == τ) := by
  unfold State.accepts
  cases s.slot x <;> rfl

theorem SameShape.accepts (h : SameShape s t) (x : Ident) (τ : Ty) : t.accepts x τ = s.accepts x τ := by
  rw [State.accepts_eq, State.accepts_eq, h.types]

theorem SameShape.unwrittenReads (h : SameShape s t) (st : Statement) : unwrittenReads st t = unwrittenReads st s := by
  have hnone : ∀ x, (t.slot x).isNone = (s.slot x).isNone := fun x => by
    simpa using congrArg Option.isNone (h.types x).symm
  simp [Machine.unwrittenReads, hnone]

theorem accessible_iff_len (s : State) (m : Ident) (a n : Nat) : Accessible s m a n ↔
    ∃ l, (s.buffer m).map Buffer.len = some l ∧ a + n ≤ l ∧ a + n - 1 ≤ 2 ^ s.params.offsetBits - 1 := by
  simp [Accessible]

theorem SameShape.accessible (h : SameShape s t) (m : Ident) (a n : Nat) : Accessible t m a n ↔ Accessible s m a n := by
  rw [accessible_iff_len, accessible_iff_len, h.lengths, h.offsetBits]

theorem SameShape.fits (h : SameShape s t) {st : Statement} (hs : StatementFits st s) : StatementFits st t where
  reads e he := (h.accepts _ _).trans (hs.reads e he)
  offset a ha := h.offsetBits ▸ hs.offset a ha
  dests e he := (h.accepts _ _).trans (hs.dests e he)
  buffer m hm := by
    have hb := hs.buffer m hm
    rwa [← Option.isSome_map, h.lengths, Option.isSome_map] at hb
  distinct := hs.distinct

/-- A fault raised in one state is raised in every state of its shape: the checks, the slots to read and the range are decided
alike. That a statement executes is told apart from raising by `pc`. -/
theorem SameShape.raises (h : SameShape s t) {i : Instr} {f : Fault} (hexec : exec i s = .next (s.raise f)) :
    exec i t = .next (t.raise f) := by
  have hfit := h.fits (fits_of_exec_next hexec)
  have hd := decides_of_exec_next hexec
  generalize hu : s.raise f = u at hd
  cases hd with
  | executed _ _ hpc => simp [← hu] at hpc
  | unwritten hread =>
    obtain rfl := Option.some.inj (congrArg State.fault hu)
    exact unwrittenSlotRaised i t _ _ hfit ((h.unwrittenReads _).trans hread)
  | range hread hacc hrange =>
    obtain rfl := Option.some.inj (congrArg State.fault hu)
    exact exec_range hfit ((h.unwrittenReads _).trans hread) hacc (mt (h.accessible _ _ _).1 hrange)

end

/-- Settles O18: having one shape is symmetric, and a fault goes over from a state to any other of its shape. -/
theorem faultsIgnoreParameters : Obligations.FaultsIgnoreParameters :=
  fun _ _ _ _ h => ⟨h.raises, h.symm.raises⟩

end Sys2Proof.Machine
end

section
/-! What the decoder answers (30_encoding.md R107 to R109, R112, 60_exceptions.md R605), said without the decoder: which
instruction a text denotes, and which check a text fails that denotes none. -/

namespace Sys2Proof

open Machine

/-! ### A row and the instructions of its mnemonic -/

/-- How the row of an instruction takes destinations and operands as written: a wrong number of either is an arity error; operands
that spell those of the instruction are taken, if the destinations are distinct; operands that spell those of no instruction of
the mnemonic are not. -/
structure Takes (row : Row) (i : Instr) : Prop where
  arity : ∀ {ds as}, ¬ (ds.length = i.statement.dests.length ∧ as.length = i.statement.args.length) →
    row ds as = .error .arity
  spelled : ∀ {ds as}, ds.length = i.statement.dests.length → List.Forall₂ SpellsArg i.statement.args as → ds.Nodup →
    ∃ j, row ds as = .ok j ∧ (ds = i.statement.dests.map Prod.fst → j = i)
  repeated : ∀ {ds as}, ds.length = i.statement.dests.length → List.Forall₂ SpellsArg i.statement.args as → ¬ ds.Nodup →
    row ds as = .error .distinctDestinations
  unspelled : ∀ {ds as}, ds.length = i.statement.dests.length → as.length = i.statement.args.length →
    (∀ j : Instr, j.statement.mnemonic = i.statement.mnemonic → ds.length = j.statement.dests.length →
      ¬ List.Forall₂ SpellsArg j.statement.args as) → row ds as = .error .operandTypes

section
variable {α β γ : Type} {ra : RawArg → Option α} {rb : RawArg → Option β} {rc : RawArg → Option γ} {arg : α → Arg}
  {brg : β → Arg} {crg : γ → Arg} {m : Mnemonic} {τ : Ty}

theorem form1_takes {mk : Ident → α → Instr} (ha : ∀ {r x}, ra r = some x ↔ SpellsArg (arg x) r)
    (hs : ∀ d x, (mk d x).statement = ⟨m, [(d, τ)], [arg x]⟩) (d : Ident) (x : α) : Takes (form1 ra mk) (mk d x) where
  arity {ds as} h := by
    simp only [hs, List.length_singleton] at h
    unfold form1
    split
    · simp at h
    · rfl
  spelled {ds as} hd has _ := by
    simp only [hs, List.length_singleton, List.length_eq_one_iff] at hd has ⊢
    obtain ⟨e, rfl⟩ := hd
    obtain _ | ⟨hx, _ | _⟩ := has
    exact ⟨mk e x, by simp [form1, ha.2 hx, orIll], by simp +contextual⟩
  repeated {ds as} hd _ hn := by
    simp only [hs, List.length_singleton, List.length_eq_one_iff] at hd
    obtain ⟨e, rfl⟩ := hd
    simp at hn
  unspelled {ds as} hd has h := by
    simp only [hs, List.length_singleton, List.length_eq_one_iff] at hd has
    obtain ⟨e, rfl⟩ := hd
    obtain ⟨a, rfl⟩ := has
    have hnone : ra a = none := Option.eq_none_iff_forall_ne_some.2 fun y hy =>
      h (mk e y) (by simp [hs]) (by simp [hs]) (by simp [hs, ha.1 hy])
    simp [form1, hnone, orIll]

theorem form2_takes {mk : Ident → α → β → Instr} (ha : ∀ {r x}, ra r = some x ↔ SpellsArg (arg x) r)
    (hb : ∀ {r y}, rb r = some y ↔ SpellsArg (brg y) r)
    (hs : ∀ d x y, (mk d x y).statement = ⟨m, [(d, τ)], [arg x, brg y]⟩) (d : Ident) (x : α) (y : β) :
    Takes (form2 ra rb mk) (mk d x y) where
  arity {ds as} h := by
    simp only [hs, List.length_cons, List.length_nil] at h
    unfold form2
    split
    · simp at h
    · rfl
  spelled {ds as} hd has _ := by
    simp only [hs, List.length_singleton, List.length_eq_one_iff] at hd has ⊢
    obtain ⟨e, rfl⟩ := hd
    obtain _ | ⟨hx, _ | ⟨hy, _ | _⟩⟩ := has
    exact ⟨mk e x y, by simp [form2, ha.2 hx, hb.2 hy], by simp +contextual⟩
  repeated {ds as} hd _ hn := by
    simp only [hs, List.length_singleton, List.length_eq_one_iff] at hd
    obtain ⟨e, rfl⟩ := hd
    simp at hn
  unspelled {ds as} hd has h := by
    simp only [hs, List.length_singleton, List.length_eq_one_iff] at hd
    obtain ⟨e, rfl⟩ := hd
    obtain ⟨a, b, rfl⟩ := List.length_eq_two.1 (by simpa [hs] using has)
    dsimp only [form2]
    split
    next u v hu hv => exact (h (mk e u v) (by simp [hs]) (by simp [hs]) (by simp [hs, ha.1 hu, hb.1 hv])).elim
    next => rfl

theorem form3_takes {mk : Ident → α → β → γ → Instr} (ha : ∀ {r x}, ra r = some x ↔ SpellsArg (arg x) r)
    (hb : ∀ {r y}, rb r = some y ↔ SpellsArg (brg y) r) (hc : ∀ {r z}, rc r = some z ↔ SpellsArg (crg z) r)
    (hs : ∀ d x y z, (mk d x y z).statement = ⟨m, [(d, τ)], [arg x, brg y, crg z]⟩) (d : Ident) (x : α) (y : β) (z : γ) :
    Takes (form3 ra rb rc mk) (mk d x y z) where
  arity {ds as} h := by
    simp only [hs, List.length_cons, List.length_nil] at h
    unfold form3
    split
    · simp at h
    · rfl
  spelled {ds as} hd has _ := by
    simp only [hs, List.length_singleton, List.length_eq_one_iff] at hd has ⊢
    obtain ⟨e, rfl⟩ := hd
    obtain _ | ⟨hx, _ | ⟨hy, _ | ⟨hz, _ | _⟩⟩⟩ := has
    exact ⟨mk e x y z, by simp [form3, ha.2 hx, hb.2 hy, hc.2 hz], by simp +contextual⟩
  repeated {ds as} hd _ hn := by
    simp only [hs, List.length_singleton, List.length_eq_one_iff] at hd
    obtain ⟨e, rfl⟩ := hd
    simp at hn
  unspelled {ds as} hd has h := by
    simp only [hs, List.length_singleton, List.length_eq_one_iff] at hd
    obtain ⟨e, rfl⟩ := hd
    obtain ⟨a, b, c, rfl⟩ := List.length_eq_three.1 (by simpa [hs] using has)
    dsimp only [form3]
    split
    next u v w hu hv hw =>
      exact (h (mk e u v w) (by simp [hs]) (by simp [hs]) (by simp [hs, ha.1 hu, hb.1 hv, hc.1 hw])).elim
    next => rfl

end

theorem formStore_takes {mk : Ident → Nat → VOperand → Instr} {m : Mnemonic}
    (hs : ∀ x y z, (mk x y z).statement = ⟨m, [], [.buffer x, .offset y, .vector z]⟩) (x : Ident) (y : Nat) (z : VOperand) :
    Takes (formStore mk) (mk x y z) where
  arity {ds as} h := by
    simp only [hs, List.length_cons, List.length_nil] at h
    unfold formStore
    split
    · simp at h
    · rfl
  spelled {ds as} hd has _ := by
    simp only [hs, List.length_nil, List.length_eq_zero_iff] at hd has ⊢
    subst hd
    obtain _ | ⟨hx, _ | ⟨hy, _ | ⟨hz, _ | _⟩⟩⟩ := has
    exact ⟨mk x y z, formStore_ok (rdName_eq_some.2 hx) (rdOffset_eq_some.2 hy) (rdVector_eq_some.2 hz), fun _ => rfl⟩
  repeated {ds as} hd _ hn := by
    simp only [hs, List.length_nil, List.length_eq_zero_iff] at hd
    subst hd
    simp at hn
  unspelled {ds as} hd has h := by
    simp only [hs, List.length_nil, List.length_eq_zero_iff] at hd
    subst hd
    obtain ⟨a, b, c, rfl⟩ := List.length_eq_three.1 (by simpa [hs] using has)
    dsimp only [formStore]
    split
    next u v w hu hv hw =>
      exact (h (mk u v w) (by simp [hs]) (by simp [hs])
        (by simp [hs, rdName_eq_some.1 hu, rdOffset_eq_some.1 hv, rdVector_eq_some.1 hw])).elim
    next => rfl

theorem formConvert_takes {mk : Ident → Ident → VOperand → Instr} {m : Mnemonic} {τ σ : Ty}
    (hs : ∀ d e x, (mk d e x).statement = ⟨m, [(d, τ), (e, σ)], [.vector x]⟩) (d₁ d₂ : Ident) (x : VOperand) :
    Takes (formConvert mk) (mk d₁ d₂ x) where
  arity {ds as} h := by
    simp only [hs, List.length_cons, List.length_nil] at h
    unfold formConvert
    split
    · simp at h
    · rfl
  spelled {ds as} hd has hn := by
    obtain ⟨e₁, e₂, rfl⟩ := List.length_eq_two.1 (by simpa [hs] using hd)
    simp only [hs] at has ⊢
    obtain _ | ⟨hx, _ | _⟩ := has
    exact ⟨mk e₁ e₂ x, formConvert_ok (by simpa [distinctNames] using hn) (rdVector_eq_some.2 hx), by simp +contextual⟩
  repeated {ds as} hd has hn := by
    obtain ⟨e₁, e₂, rfl⟩ := List.length_eq_two.1 (by simpa [hs] using hd)
    simp only [hs] at has
    obtain _ | ⟨hx, _ | _⟩ := has
    obtain rfl : e₁ = e₂ := by simpa using hn
    simp [formConvert, rdVector_eq_some.2 hx]
  unspelled {ds as} hd has h := by
    obtain ⟨e₁, e₂, rfl⟩ := List.length_eq_two.1 (by simpa [hs] using hd)
    simp only [hs, List.length_singleton, List.length_eq_one_iff] at has
    obtain ⟨a, rfl⟩ := has
    have hnone : rdVector a = none := Option.eq_none_iff_forall_ne_some.2 fun y hy =>
      h (mk e₁ e₂ y) (by simp [hs]) (by simp [hs]) (by simp [hs, rdVector_eq_some.1 hy])
    simp [formConvert, hnone]

/-- The rows stand in the order of the ordinals, and each takes the operands of its instruction (R110, R111). -/
theorem rows_take (i : Instr) : ∃ row, rows[i.ctorIdx]? = some (i.statement.mnemonic, row) ∧ Takes row i := by
  cases i
  -- build and splat
  iterate 4 exact ⟨_, rfl, form1_takes rdBooleans_eq_some (fun _ _ => rfl) _ _⟩
  iterate 6 exact ⟨_, rfl, form1_takes rdScalars_eq_some (fun _ _ => rfl) _ _⟩
  iterate 4 exact ⟨_, rfl, form1_takes rdBoolean_eq_some (fun _ _ => rfl) _ _⟩
  iterate 6 exact ⟨_, rfl, form1_takes rdScalar_eq_some (fun _ _ => rfl) _ _⟩
  -- extractLane, replaceLane, select, swizzle, shuffle
  iterate 4 exact ⟨_, rfl, form2_takes rdMask_eq_some rdIndex_eq_some (fun _ _ _ => rfl) _ _ _⟩
  iterate 6 exact ⟨_, rfl, form2_takes rdVector_eq_some rdIndex_eq_some (fun _ _ _ => rfl) _ _ _⟩
  iterate 4 exact ⟨_, rfl, form3_takes rdMask_eq_some rdIndex_eq_some rdBoolean_eq_some (fun _ _ _ _ => rfl) _ _ _ _⟩
  iterate 6 exact ⟨_, rfl, form3_takes rdVector_eq_some rdIndex_eq_some rdScalar_eq_some (fun _ _ _ _ => rfl) _ _ _ _⟩
  iterate 4 exact ⟨_, rfl, form3_takes rdMask_eq_some rdVector_eq_some rdVector_eq_some (fun _ _ _ _ => rfl) _ _ _ _⟩
  iterate 4 exact ⟨_, rfl, form2_takes rdVector_eq_some rdIndices_eq_some (fun _ _ _ => rfl) _ _ _⟩
  iterate 4 exact ⟨_, rfl, form3_takes rdVector_eq_some rdVector_eq_some rdIndices_eq_some (fun _ _ _ _ => rfl) _ _ _ _⟩
  -- integer arithmetic, saturating arithmetic, shifts
  iterate 12 exact ⟨_, rfl, form2_takes rdVector_eq_some rdVector_eq_some (fun _ _ _ => rfl) _ _ _⟩
  iterate 4 exact ⟨_, rfl, form1_takes rdVector_eq_some (fun _ _ => rfl) _ _⟩
  iterate 8 exact ⟨_, rfl, form2_takes rdVector_eq_some rdVector_eq_some (fun _ _ _ => rfl) _ _ _⟩
  iterate 12 exact ⟨_, rfl, form2_takes rdVector_eq_some rdScalar_eq_some (fun _ _ _ => rfl) _ _ _⟩
  -- logical and bitwise operations, reductions
  iterate 12 exact ⟨_, rfl, form2_takes rdMask_eq_some rdMask_eq_some (fun _ _ _ => rfl) _ _ _⟩
  iterate 4 exact ⟨_, rfl, form1_takes rdMask_eq_some (fun _ _ => rfl) _ _⟩
  iterate 3 exact ⟨_, rfl, form2_takes rdVector_eq_some rdVector_eq_some (fun _ _ _ => rfl) _ _ _⟩
  · exact ⟨_, rfl, form1_takes rdVector_eq_some (fun _ _ => rfl) _ _⟩
  iterate 8 exact ⟨_, rfl, form1_takes rdMask_eq_some (fun _ _ => rfl) _ _⟩
  -- comparisons
  iterate 52 exact ⟨_, rfl, form2_takes rdVector_eq_some rdVector_eq_some (fun _ _ _ => rfl) _ _ _⟩
  -- loads and stores
  iterate 4 exact ⟨_, rfl, form2_takes rdName_eq_some rdOffset_eq_some (fun _ _ _ => rfl) _ _ _⟩
  iterate 4 exact ⟨_, rfl, formStore_takes (fun _ _ _ => rfl) _ _ _⟩
  iterate 3 exact ⟨_, rfl, form2_takes rdName_eq_some rdOffset_eq_some (fun _ _ _ => rfl) _ _ _⟩
  iterate 3 exact ⟨_, rfl, formStore_takes (fun _ _ _ => rfl) _ _ _⟩
  -- floating-point sign, minimum and maximum
  iterate 4 exact ⟨_, rfl, form1_takes rdVector_eq_some (fun _ _ => rfl) _ _⟩
  iterate 8 exact ⟨_, rfl, form2_takes rdVector_eq_some rdVector_eq_some (fun _ _ _ => rfl) _ _ _⟩
  -- floating-point arithmetic and the approximations
  iterate 8 exact ⟨_, rfl, form3_takes rdVector_eq_some rdVector_eq_some rdRounding_eq_some (fun _ _ _ _ => rfl) _ _ _ _⟩
  iterate 2 exact ⟨_, rfl, form2_takes rdVector_eq_some rdRounding_eq_some (fun _ _ _ => rfl) _ _ _⟩
  iterate 4 exact ⟨_, rfl, form1_takes rdVector_eq_some (fun _ _ => rfl) _ _⟩
  -- conversions
  iterate 4 exact ⟨_, rfl, form2_takes rdVector_eq_some rdRounding_eq_some (fun _ _ _ => rfl) _ _ _⟩
  iterate 4 exact ⟨_, rfl, formConvert_takes (fun _ _ _ => rfl) _ _ _⟩

theorem findRow_of_mem {m : Mnemonic} {row : Row} {l : List (Mnemonic × Row)} (hl : (l.map Prod.fst).Nodup)
    (h : (m, row) ∈ l) : findRow m l = some row := by
  induction l with
  | nil => cases h
  | cons e r ih =>
    obtain ⟨k, row'⟩ := e
    rw [List.map_cons, List.nodup_cons] at hl
    obtain _ | ⟨_, h⟩ := h
    · simp [findRow]
    · have hk : k ≠ m := fun hk => hl.1 (List.mem_map.2 ⟨_, h, hk.symm⟩)
      rw [findRow, if_neg hk, ih hl.2 h]

/-- Every instruction has the row of its mnemonic. -/
theorem findRow_statement (i : Instr) : ∃ row, findRow i.statement.mnemonic rows = some row ∧ Takes row i := by
  obtain ⟨row, hrow, htakes⟩ := rows_take i
  obtain ⟨-, -, hnodup⟩ := mnemonicSelects
  exact ⟨row, findRow_of_mem hnodup (List.mem_of_getElem? hrow), htakes⟩

/-! ### Every row has an instruction -/

/-- One statement of every form (R103): destinations and operands as written, slots named `a`, numerals 0. -/
def sampleStatements : List (List Ident × List RawArg) :=
  let a : Elem := .word ['a']
  let zero : Elem := .word ['0']
  let mode : Elem := .word RoundingMode.tiesToEven.name
  let array (n : Nat) (e : Elem) : RawArg := .list (List.replicate n e) none
  [ ([['a']], [array 16 a]), ([['a']], [array 8 a]), ([['a']], [array 4 a]), ([['a']], [array 2 a]),
    ([['a']], [.elem a]), ([['a']], [.elem a, .elem zero]), ([['a']], [.elem a, .elem zero, .elem a]),
    ([['a']], [.elem a, .elem a, .elem a]), ([['a']], [.elem a, .elem a]),
    ([['a']], [.elem a, array 16 zero]), ([['a']], [.elem a, array 8 zero]), ([['a']], [.elem a, array 4 zero]),
    ([['a']], [.elem a, array 2 zero]),
    ([['a']], [.elem a, .elem a, array 16 zero]), ([['a']], [.elem a, .elem a, array 8 zero]),
    ([['a']], [.elem a, .elem a, array 4 zero]), ([['a']], [.elem a, .elem a, array 2 zero]),
    ([], [.elem a, .elem zero, .elem a]), ([['a']], [.elem a, .elem a, .elem mode]), ([['a']], [.elem a, .elem mode]),
    ([['a'], ['b']], [.elem a]) ]

/-- Each row answers an instruction on one of the samples. -/
theorem rows_answer_sample : (rows.all fun e => sampleStatements.any fun p => (e.2 p.1 p.2).isOk) = true := by
  decide +kernel

theorem exists_instr_of_row {m : Mnemonic} {row : Row} (h : (m, row) ∈ rows) : ∃ i : Instr, i.statement.mnemonic = m := by
  obtain ⟨p, -, hp⟩ := List.any_eq_true.1 (List.all_eq_true.1 rows_answer_sample _ h)
  cases hi : row p.1 p.2 with
  | error c => simp [hi, Except.isOk, Except.toBool] at hp
  | ok i => exact ⟨i, (rows_answer h _ _ _ hi).mnemonic⟩

/-! ### What a text is -/

theorem distinctNames_iff_nodup (l : List Ident) : distinctNames l = true ↔ l.Nodup := by
  induction l with
  | nil => simp [distinctNames]
  | cons x r ih => simp [distinctNames, ih]

/-- A statement with a mnemonic of an instruction is taken by the row of the instruction. -/
theorem decode_of_names {t : Text} {st : RawStatement} {i : Instr} (hw : Written t st) (hn : Names st i) :
    ∃ row, decode t = row st.dests st.args ∧ Takes row i := by
  obtain ⟨row, hrow, htakes⟩ := findRow_statement i
  obtain ⟨hst, hvalid⟩ := hw
  have hm : st.mnemonic = i.statement.mnemonic.text := hn
  exact ⟨row, by simp [decode, hst, assemble, hvalid, hm, readMnemonic_text, hrow], htakes⟩

theorem denotes_of_decode {t : Text} {i : Instr} (h : decode t = .ok i) : Denotes t i := by
  obtain ⟨st, hst, hi⟩ := decode_eq_ok.1 h
  obtain ⟨hvalid, m, hm, hstands⟩ := assemble_eq_ok hi
  have hdests : st.dests.length = i.statement.dests.length := by simp [← hstands.dests]
  exact ⟨st, ⟨hst, hvalid⟩, ⟨by rw [Names, hm, hstands.mnemonic], ⟨hdests, hstands.args.length_eq.symm⟩, hstands.args⟩,
    hstands.dests.symm, (distinctNames_iff_nodup _).1 hstands.distinct⟩

/-- What a text is: the instruction it denotes, or the check it fails as a statement by itself (R107 to R109, R112). -/
inductive Reading (t : Text) : Except Check Instr → Prop
  | statementForm (h : ∀ st, ¬ Written t st) : Reading t (.error .statementForm)
  | knownMnemonic {st : RawStatement} (hw : Written t st) (h : ∀ i, ¬ Names st i) : Reading t (.error .knownMnemonic)
  | arity {st : RawStatement} {i : Instr} (hw : Written t st) (hn : Names st i) (h : ¬ Counts st i) : Reading t (.error .arity)
  | operandTypes {st : RawStatement} {i : Instr} (hw : Written t st) (hn : Names st i) (hc : Counts st i)
      (h : ∀ j, ¬ SpellsAll st j) : Reading t (.error .operandTypes)
  | distinctDestinations {st : RawStatement} {i : Instr} (hw : Written t st) (hs : SpellsAll st i) (h : ¬ st.dests.Nodup) :
      Reading t (.error .distinctDestinations)
  | ok {i : Instr} (h : Denotes t i) : Reading t (.ok i)

/-- The decoder answers what the text is. -/
theorem Reading.decode_eq {t : Text} {r : Except Check Instr} (h : Reading t r) : decode t = r := by
  cases h with
  | statementForm h =>
    unfold decode
    split
    next st hst =>
      have hvalid : st.dests.all Ident.valid = false := Bool.eq_false_iff.2 fun hv => h st ⟨hst, hv⟩
      simp [assemble, hvalid]
    next => rfl
  | @knownMnemonic st hw h =>
    obtain ⟨hst, hvalid⟩ := hw
    have hnone : ((readMnemonic st.mnemonic).bind fun m => findRow m rows) = none := by
      refine Option.eq_none_iff_forall_ne_some.2 fun row hrow => ?_
      obtain ⟨m, hm, hf⟩ := Option.bind_eq_some_iff.1 hrow
      obtain ⟨i, hi⟩ := exists_instr_of_row (findRow_mem hf)
      exact h i (by rw [Names, hi]; exact readMnemonic_eq_some hm)
    simp [decode, hst, assemble, hvalid, hnone]
  | arity hw hn h =>
    obtain ⟨row, hrow, htakes⟩ := decode_of_names hw hn
    exact hrow.trans (htakes.arity h)
  | operandTypes hw hn hc h =>
    obtain ⟨row, hrow, htakes⟩ := decode_of_names hw hn
    refine hrow.trans (htakes.unspelled hc.1 hc.2 fun j hj hd hspell => h j ⟨?_, ⟨hd, hspell.length_eq.symm⟩, hspell⟩)
    rw [Names, hj]
    exact hn
  | distinctDestinations hw hs h =>
    obtain ⟨hn, hc, hspell⟩ := hs
    obtain ⟨row, hrow, htakes⟩ := decode_of_names hw hn
    exact hrow.trans (htakes.repeated hc.1 hspell h)
  | ok h =>
    obtain ⟨st, hw, ⟨hn, hc, hspell⟩, hdests, hnodup⟩ := h
    obtain ⟨row, hrow, htakes⟩ := decode_of_names hw hn
    obtain ⟨j, hj, hji⟩ := htakes.spelled hc.1 hspell hnodup
    exact hrow.trans (hji hdests ▸ hj)

/-- Every text is something: the checks are made in their order, and a statement that passes them all denotes an instruction. -/
theorem exists_reading (t : Text) : ∃ r, Reading t r := by
  by_cases hw : ∃ st, Written t st
  case neg => exact ⟨_, .statementForm (not_exists.1 hw)⟩
  obtain ⟨st, hw⟩ := hw
  by_cases hn : ∃ i, Names st i
  case neg => exact ⟨_, .knownMnemonic hw (not_exists.1 hn)⟩
  obtain ⟨i, hn⟩ := hn
  by_cases hc : Counts st i
  case neg => exact ⟨_, .arity hw hn hc⟩
  by_cases hs : ∃ j, SpellsAll st j
  case neg => exact ⟨_, .operandTypes hw hn hc (not_exists.1 hs)⟩
  obtain ⟨j, hs⟩ := hs
  by_cases hd : st.dests.Nodup
  case neg => exact ⟨_, .distinctDestinations hw hs hd⟩
  obtain ⟨hn, hc, hspell⟩ := hs
  obtain ⟨row, hrow, htakes⟩ := decode_of_names hw hn
  obtain ⟨k, hk, -⟩ := htakes.spelled hc.1 hspell hd
  exact ⟨.ok k, .ok (denotes_of_decode (hrow.trans hk))⟩

theorem decode_eq_iff {t : Text} {r : Except Check Instr} : decode t = r ↔ Reading t r := by
  refine ⟨fun h => ?_, Reading.decode_eq⟩
  obtain ⟨r', hr'⟩ := exists_reading t
  obtain rfl : r' = r := hr'.decode_eq.symm.trans h
  exact hr'

theorem decode_ok_iff {t : Text} {i : Instr} : decode t = .ok i ↔ Denotes t i :=
  ⟨denotes_of_decode, fun h => (Reading.ok h).decode_eq⟩

end Sys2Proof
end

section
/-! The checks on a program (30_encoding.md R108, 60_exceptions.md R605, R613): which programs run, which check refuses each
other one, and why no check fails during a run. -/

namespace Sys2Proof.Machine

/-! ### One statement -/

/-- A slot has no type yet or this one, in the terms of the check and of R108. -/
theorem Types.allows_iff (ts : Types) (e : Ident × Ty) : ts.allows e = true ↔ ∀ τ, ts.find e.1 = some τ → τ = e.2 := by
  unfold Types.allows
  cases ts.find e.1 <;> simp

/-- The check a statement fails at a point of a program, the first in the order of log entry 7, or none. -/
inductive Verdict (l : Launch) (ts : Types) (st : Statement) : Option Check → Prop
  | operandTypes (h : ¬ ReadsFit l ts st) : Verdict l ts st (some .operandTypes)
  | destinationTypes (hr : ReadsFit l ts st) (h : ¬ DestsFit ts st) : Verdict l ts st (some .destinationTypes)
  | bufferKnown (hr : ReadsFit l ts st) (hd : DestsFit ts st) (h : ¬ BufferFits l st) : Verdict l ts st (some .bufferKnown)
  | passes (hr : ReadsFit l ts st) (hd : DestsFit ts st) (hb : BufferFits l st) : Verdict l ts st none

theorem statementCheck_eq (l : Launch) (ts : Types) (st : Statement) : statementCheck l ts st =
    if !st.reads.all ts.allows then some .operandTypes
    else if !st.offset?.all (fun a => decide (a < 2 ^ l.offsetBits)) then some .operandTypes
    else if !st.dests.all ts.allows then some .destinationTypes
    else if !st.buffer?.all (l.buffers.contains ·) then some .bufferKnown
    else if !distinctNames (st.dests.map Prod.fst) then some .distinctDestinations
    else none := by
  unfold statementCheck
  cases st.offset? <;> cases st.buffer? <;> rfl

theorem statementCheck_verdict {l : Launch} {ts : Types} {st : Statement} (hn : distinctNames (st.dests.map Prod.fst) = true) :
    Verdict l ts st (statementCheck l ts st) := by
  have hreads : ReadsFit l ts st ↔
      st.reads.all ts.allows = true ∧ st.offset?.all (fun a => decide (a < 2 ^ l.offsetBits)) = true := by
    simp [ReadsFit, Types.allows_iff, Option.all_eq_true]
  have hdests : DestsFit ts st ↔ st.dests.all ts.allows = true := by simp [Types.allows_iff, DestsFit]
  have hbuffer : BufferFits l st ↔ st.buffer?.all (l.buffers.contains ·) = true := by simp [Option.all_eq_true, BufferFits]
  rw [statementCheck_eq, hn]
  cases h1 : st.reads.all ts.allows with
  | false => exact .operandTypes (by simp [hreads, h1])
  | true =>
    cases h2 : st.offset?.all (fun a => decide (a < 2 ^ l.offsetBits)) with
    | false => exact .operandTypes (by simp [hreads, h2])
    | true =>
      have hr := hreads.2 ⟨h1, h2⟩
      cases h3 : st.dests.all ts.allows with
      | false => exact .destinationTypes hr (by simp [hdests, h3])
      | true =>
        cases h4 : st.buffer?.all (l.buffers.contains ·) with
        | false => exact .bufferKnown hr (hdests.2 h3) (by simp only [hbuffer, h4]; decide)
        | true => exact .passes hr (hdests.2 h3) (hbuffer.2 h4)

/-- The four cases exclude each other. -/
theorem Verdict.unique {l : Launch} {ts : Types} {st : Statement} {r r' : Option Check} (h : Verdict l ts st r)
    (h' : Verdict l ts st r') : r = r' := by
  cases h <;> cases h' <;> tauto

theorem statementCheck_eq_iff {l : Launch} {ts : Types} {st : Statement} {r : Option Check}
    (hn : distinctNames (st.dests.map Prod.fst) = true) : statementCheck l ts st = r ↔ Verdict l ts st r :=
  ⟨fun h => h ▸ statementCheck_verdict hn, (statementCheck_verdict hn).unique⟩

theorem Denotes.distinctNames {t : Text} {i : Instr} (h : Denotes t i) :
    distinctNames (i.statement.dests.map Prod.fst) = true := by
  obtain ⟨st, -, -, hdests, hnodup⟩ := h
  exact (distinctNames_iff_nodup _).2 (hdests ▸ hnodup)

/-- A text that is decoded and passes the checks against program and launch passes in the sense of R108. -/
theorem passes_iff {l : Launch} {ts : Types} {t : Text} {i : Instr} :
    decode t = .ok i ∧ statementCheck l ts i.statement = none ↔ Passes l ts t i := by
  rw [decode_ok_iff]
  refine and_congr_right fun h => ?_
  rw [statementCheck_eq_iff h.distinctNames]
  exact ⟨fun hv => by cases hv with | passes hr hd hb => exact ⟨hr, hd, hb⟩, fun ⟨hr, hd, hb⟩ => .passes hr hd hb⟩

/-- A text that is not decoded, or is and fails a check against program and launch, fails in the sense of R108. -/
theorem fails_iff {l : Launch} {ts : Types} {t : Text} {c : Check} :
    (decode t = .error c ∨ ∃ i, decode t = .ok i ∧ statementCheck l ts i.statement = some c) ↔ Fails l ts t c := by
  constructor
  · rintro (h | ⟨i, hi, h⟩)
    · cases decode_eq_iff.1 h with
      | statementForm hform => exact hform
      | knownMnemonic hw hnone => exact ⟨_, hw, hnone⟩
      | arity hw hn hcount => exact ⟨_, _, hw, hn, hcount⟩
      | operandTypes hw hn hc hspell => exact .inl ⟨_, _, hw, hn, hc, hspell⟩
      | distinctDestinations hw hs hdup => exact ⟨_, _, hw, hs, hdup⟩
    · have hden := decode_ok_iff.1 hi
      cases (statementCheck_eq_iff hden.distinctNames).1 h with
      | operandTypes hr => exact .inr ⟨i, hden, hr⟩
      | destinationTypes hr hd => exact ⟨i, hden, hr, hd⟩
      | bufferKnown hr hd hb => exact ⟨i, hden, hr, hd, hb⟩
  · intro h
    cases c with
    | statementForm => exact .inl (decode_eq_iff.2 (.statementForm h))
    | knownMnemonic =>
      obtain ⟨st, hw, h⟩ := h
      exact .inl (decode_eq_iff.2 (.knownMnemonic hw h))
    | arity =>
      obtain ⟨st, i, hw, hn, h⟩ := h
      exact .inl (decode_eq_iff.2 (.arity hw hn h))
    | operandTypes =>
      obtain ⟨st, i, hw, hn, hc, h⟩ | ⟨i, hden, h⟩ := h
      · exact .inl (decode_eq_iff.2 (.operandTypes hw hn hc h))
      · exact .inr ⟨i, decode_ok_iff.2 hden, (statementCheck_eq_iff hden.distinctNames).2 (.operandTypes h)⟩
    | destinationTypes =>
      obtain ⟨i, hden, hr, h⟩ := h
      exact .inr ⟨i, decode_ok_iff.2 hden, (statementCheck_eq_iff hden.distinctNames).2 (.destinationTypes hr h)⟩
    | bufferKnown =>
      obtain ⟨i, hden, hr, hd, h⟩ := h
      exact .inr ⟨i, decode_ok_iff.2 hden, (statementCheck_eq_iff hden.distinctNames).2 (.bufferKnown hr hd h)⟩
    | distinctDestinations =>
      obtain ⟨st, i, hw, hs, h⟩ := h
      exact .inl (decode_eq_iff.2 (.distinctDestinations hw hs h))

/-! ### A program -/

theorem loadFrom_cons_ok_iff {l : Launch} {ts : Types} {t : Text} {r : List Text} {is : List Instr} :
    loadFrom l ts (t :: r) = .ok is ↔
      ∃ i rest, is = i :: rest ∧ Passes l ts t i ∧ loadFrom l (ts.after i.statement) r = .ok rest := by
  constructor
  · intro h
    obtain ⟨i, rest, rfl, hi, hc, hrest⟩ := loadFrom_cons_ok h
    exact ⟨i, rest, rfl, passes_iff.1 ⟨hi, hc⟩, hrest⟩
  · rintro ⟨i, rest, rfl, hp, hrest⟩
    obtain ⟨hi, hc⟩ := passes_iff.2 hp
    simp [loadFrom, hi, hc, hrest]

theorem loadFrom_cons_error_iff {l : Launch} {ts : Types} {t : Text} {r : List Text} {c : Check} :
    loadFrom l ts (t :: r) = .error c ↔
      Fails l ts t c ∨ ∃ i, Passes l ts t i ∧ loadFrom l (ts.after i.statement) r = .error c := by
  simp only [← fails_iff, ← passes_iff, loadFrom]
  cases decode t with
  | error c' => simp
  | ok i =>
    cases hc : statementCheck l ts i.statement with
    | some c' => simp [hc]
    | none => cases hr : loadFrom l (ts.after i.statement) r <;> simp [hc, hr]

/-- The types before statement `k`, from those at the start. -/
def Types.before (ts : Types) (is : List Instr) (k : Nat) : Types := (is.take k).foldl (fun ts i => ts.after i.statement) ts

theorem typesAt_eq_before (is : List Instr) (k : Nat) : typesAt is k = Types.before [] is k := rfl

/-- `PassesAll` from a point at which the slots have the types `ts`. -/
def PassesFrom (l : Launch) (ts : Types) (program : List Text) (is : List Instr) : Prop :=
  ∀ k i, is[k]? = some i → ∃ t, program[k]? = some t ∧ Passes l (ts.before is k) t i

theorem passesAll_iff (l : Launch) (program : List Text) (is : List Instr) :
    PassesAll l program is ↔ PassesFrom l [] program is := Iff.rfl

theorem passesFrom_nil (l : Launch) (ts : Types) (program : List Text) : PassesFrom l ts program [] := by
  simp [PassesFrom]

theorem passesFrom_cons {l : Launch} {ts : Types} {t : Text} {r : List Text} {i : Instr} {is : List Instr} :
    PassesFrom l ts (t :: r) (i :: is) ↔ Passes l ts t i ∧ PassesFrom l (ts.after i.statement) r is := by
  constructor
  · intro h
    obtain ⟨t', ht', hp⟩ := h 0 i rfl
    obtain rfl := Option.some.inj ht'
    exact ⟨hp, fun k j hj => h (k + 1) j hj⟩
  · rintro ⟨hp, hrest⟩ k j hj
    cases k with
    | zero => cases hj; exact ⟨t, rfl, hp⟩
    | succ k => exact hrest k j hj

/-- A program is loaded as the instructions it is, one for each statement, when all of them pass. -/
theorem loadFrom_ok_iff {l : Launch} {ts : Types} {program : List Text} {is : List Instr} :
    loadFrom l ts program = .ok is ↔ is.length = program.length ∧ PassesFrom l ts program is := by
  induction program generalizing ts is with
  | nil =>
    cases is with
    | nil => simp [loadFrom, passesFrom_nil]
    | cons i is => simp [loadFrom]
  | cons t r ih =>
    rw [loadFrom_cons_ok_iff]
    cases is with
    | nil => simp
    | cons i is => simp [ih, passesFrom_cons, and_left_comm]

/-- A program is refused with the check of its first statement that fails. -/
theorem loadFrom_error_iff {l : Launch} {ts : Types} {program : List Text} {c : Check} :
    loadFrom l ts program = .error c ↔ ∃ is t, PassesFrom l ts program is ∧ program[is.length]? = some t ∧
      Fails l (ts.before is is.length) t c := by
  induction program generalizing ts with
  | nil => simp [loadFrom]
  | cons t r ih =>
    rw [loadFrom_cons_error_iff]
    constructor
    · rintro (h | ⟨i, hp, h⟩)
      · exact ⟨[], t, passesFrom_nil l ts _, rfl, h⟩
      · obtain ⟨is, t', his, ht', hfail⟩ := ih.1 h
        exact ⟨i :: is, t', passesFrom_cons.2 ⟨hp, his⟩, ht', hfail⟩
    · rintro ⟨is, t', his, ht', hfail⟩
      cases is with
      | nil =>
        cases ht'
        exact .inl hfail
      | cons i is =>
        obtain ⟨hp, his⟩ := passesFrom_cons.1 his
        exact .inr ⟨i, hp, ih.2 ⟨is, t', his, ht', hfail⟩⟩

/-- Settles O7: the program is loaded or refused statement by statement, and a step looks at the loaded program first. -/
theorem refusedBeforeRun : Obligations.RefusedBeforeRun := by
  refine ⟨fun s c hf hc => ?refused, fun s is hf hl hpc => ?ended, fun s is => ?accepted, fun s c => ?named⟩
  case refused => simp [step, hf, hc]
  case ended => simp [step, hf, hl, hpc]
  case accepted =>
    rw [passesAll_iff]
    exact loadFrom_ok_iff
  case named =>
    simp only [passesAll_iff, typesAt_eq_before]
    exact loadFrom_error_iff

/-! ### A well-typed run (R613) -/

theorem Memory.find_isSome {m : Ident} {l : List (Ident × Buffer)} (h : m ∈ l.map Prod.fst) :
    (Memory.find m l).isSome = true := by
  induction l with
  | nil => simp at h
  | cons e r ih =>
    obtain ⟨y, b⟩ := e
    unfold Memory.find
    split_ifs with hy
    · rfl
    · exact ih ((List.mem_cons.1 h).resolve_left (Ne.symm hy))

/-- In a state of a well-typed run the statement at `pc` passes every check: a written slot has the type known before it. -/
theorem fits_of_typed {s : State} {is : List Instr} {i : Instr} (hl : s.instrs = .ok is) (hi : is[s.pc]? = some i)
    (hty : ∀ x v, s.slot x = some v → (typesAt is s.pc).find x = some v.ty) : StatementFits i.statement s := by
  have hcheck := State.statementCheck_of_instrs hl hi
  have hn := distinctNames_of_statementCheck hcheck
  have haccepts : ∀ e : Ident × Ty, (∀ τ, (typesAt is s.pc).find e.1 = some τ → τ = e.2) → s.accepts e.1 e.2 = true := by
    intro e he
    unfold State.accepts
    cases hv : s.slot e.1 with
    | none => rfl
    | some v => exact beq_iff_eq.2 (he v.ty (hty e.1 v hv))
  cases (statementCheck_eq_iff hn).1 hcheck with
  | passes hr hd hb =>
    exact ⟨fun e he => haccepts e (hr.1 e he), hr.2, fun e he => haccepts e (hd e he),
      fun m hm => Memory.find_isSome (hb m hm), hn⟩

/-- Settles O14: the statement at `pc` of a well-typed run fits, so one of the outcomes of R613 happens, as the statement
decides. -/
theorem wellTypedRunsGoOn : Obligations.WellTypedRunsGoOn := by
  intro s hs hf hpc
  obtain ⟨is, hl, -, hty⟩ := hs
  obtain ⟨text, htext⟩ : ∃ text, s.program[s.pc]? = some text := ⟨_, List.getElem?_eq_getElem hpc⟩
  obtain ⟨i, hi, hdecode⟩ := decode_of_loadFrom hl htext
  obtain ⟨t, hexec, hd⟩ := exec_decided (fits_of_typed hl hi hty)
  refine ⟨text, i, t, htext, hdecode, (stepRunsDecoded s is text i hf hl htext hdecode).trans hexec, ?_⟩
  cases hd with
  | executed hread hrange hpc hfault => exact .inl ⟨hread, hrange, hpc, hfault.trans hf⟩
  | unwritten hread => exact .inr (.inl ⟨_, _, hread, rfl⟩)
  | range hread hacc hrange => exact .inr (.inr ⟨hread, _, _, _, hacc, hrange, rfl⟩)

end Sys2Proof.Machine
end

section
/-! Floating-point arithmetic (48_fp_arith.md R501 to R507): the five IEEE functions give the exact result correctly rounded
(40_fp_semantics.md R151 to R155), and the wrappers put the rules of NaNs and flushing around them (R141 to R150). -/

namespace Sys2Proof.Machine

variable {W L : Nat}

section
variable {f : Fmt W}

/-! ### Values as signed magnitudes (R134) -/

/-- The sign of a datum as a factor. -/
def signFactor (s : Bool) : ℝ := if s then -1 else 1

theorem signFactor_xor (s t : Bool) : signFactor (s ^^ t) = signFactor s * signFactor t := by
  cases s <;> cases t <;> simp [signFactor]

theorem signFactor_mul_self (s : Bool) : signFactor s * signFactor s = 1 := by
  cases s <;> simp [signFactor]

theorem Fmt.rat_eq_mag (f : Fmt W) (x : BitVec W) : (f.rat x : ℝ) = signFactor (signbit x) * (f.mag x * (2 : ℝ) ^ f.unit) := by
  rw [f.rat_eq_along (signbit x), Fmt.along, if_pos rfl, signFactor]

theorem Fmt.rat_eq_zero_iff (f : Fmt W) (x : BitVec W) : f.rat x = 0 ↔ f.iszero x = true := by
  rw [← abs_eq_zero, ← Rat.cast_inj (α := ℝ), Rat.cast_abs, f.abs_rat]
  have hU : (2 : ℝ) ^ f.unit ≠ 0 := by positivity
  have hmag : f.mag x = 0 ↔ f.iszero x = true := by
    rw [f.mag_eq, f.iszero_iff, ← f.magOf_zero, f.magOf_strictMono.injective.eq_iff, f.magOf_zero]
  simp [hU, hmag]

theorem Fmt.not_isfinite_of_isinf {x : BitVec W} (h : f.isinf x = true) : ¬ f.isfinite x = true := by
  simp [Fmt.isfinite, h]

/-- There is one infinity of each sign (R133). -/
theorem Fmt.Regular.eq_inf_of_isinf (hf : f.Regular) {x : BitVec W} (h : f.isinf x = true) : x = f.inf (signbit x) := by
  conv_lhs => rw [← hf.pack_signbit_code x, (f.isinf_iff x).1 h]
  exact (f.inf_eq_pack _).symm

/-! ### The wrappers (R149, R150) -/

/-- What an IEEE function does on data that are no NaNs: it answers no datum exactly in the invalid cases, and otherwise one that
the relation allows. -/
def Answers2 (f : Fmt W) (func : BitVec W → BitVec W → Option (BitVec W)) (invalid : BitVec W → BitVec W → Prop)
    (core : BitVec W → BitVec W → BitVec W → Prop) : Prop :=
  ∀ x y, f.isnan x = false → f.isnan y = false →
    (invalid x y ∧ func x y = none) ∨ (¬ invalid x y ∧ ∃ r, func x y = some r ∧ core x y r)

/-- The same for a function of one operand. -/
def Answers1 (f : Fmt W) (func : BitVec W → Option (BitVec W)) (invalid : BitVec W → Prop) (core : BitVec W → BitVec W → Prop) :
    Prop :=
  ∀ x, f.isnan x = false → (invalid x ∧ func x = none) ∨ (¬ invalid x ∧ ∃ r, func x = some r ∧ core x r)

/-- The default NaN has either sign (R141). -/
theorem Fmt.defaultNaN_eq (f : Fmt W) (n : Nat) : f.defaultNaN n = f.pack false f.emask (2 ^ (f.fracBits - 1)) ∨
    f.defaultNaN n = f.pack true f.emask (2 ^ (f.fracBits - 1)) := by
  cases h : Config.drawBool n <;> simp [Fmt.defaultNaN, h]

theorem Fmt.Regular.wrapBinary_wrapped (hf : f.Regular) {func : BitVec W → BitVec W → Option (BitVec W)}
    {invalid : BitVec W → BitVec W → Prop} {core : BitVec W → BitVec W → BitVec W → Prop} (h : Answers2 f func invalid core)
    (p : Params) (n : Nat) (x y : BitVec W) :
    f.WrappedBinary p invalid core x y (f.wrapBinary p.flushSubnormals func n x y) := by
  simp only [Fmt.WrappedBinary, Fmt.wrapBinary, Bool.or_eq_true]
  split_ifs with hnan
  · exact f.propagateNaN_eq_quiet n hnan
  · simp only [not_or, Bool.not_eq_true] at hnan
    obtain ⟨hx, hy⟩ := hnan
    obtain ⟨hi, hr⟩ | ⟨hi, r, hr, hcore⟩ := h _ _ (hf.isnan_flush p.flushSubnormals hx) (hf.isnan_flush p.flushSubnormals hy)
    · rw [hr]
      exact .inl ⟨hi, f.defaultNaN_eq n⟩
    · rw [hr]
      exact .inr ⟨hi, r, hcore, rfl⟩

theorem Fmt.Regular.wrapUnary_wrapped (hf : f.Regular) {func : BitVec W → Option (BitVec W)} {invalid : BitVec W → Prop}
    {core : BitVec W → BitVec W → Prop} (h : Answers1 f func invalid core) (p : Params) (n : Nat) (x : BitVec W) :
    f.WrappedUnary p invalid core x (f.wrapUnary p.flushSubnormals func n x) := by
  rw [Fmt.WrappedUnary, Fmt.wrapUnary]
  split_ifs with hnan
  · rfl
  · obtain ⟨hi, hr⟩ | ⟨hi, r, hr, hcore⟩ := h _ (hf.isnan_flush p.flushSubnormals (by simpa using hnan))
    · rw [hr]
      exact .inl ⟨hi, f.defaultNaN_eq n⟩
    · rw [hr]
      exact .inr ⟨hi, r, hcore, rfl⟩

/-! ### Sum and difference (R151, R152) -/

theorem Fmt.rat_add_rat (f : Fmt W) (x y : BitVec W) : f.rat x + f.rat y = (f.val x + f.val y : Int) * (2 : ℚ) ^ f.unit := by
  rw [f.rat_eq_val, f.rat_eq_val]
  push_cast
  ring

/-- An exact integer in units rounded: sign and magnitude are those of the integer. -/
theorem Fmt.Regular.roundRatio_int (hf : f.Regular) (rm : RoundingMode) {z : Int} (hz : z ≠ 0) (k : Int) :
    f.Rounds rm ((z : ℝ) * 2 ^ k) (f.roundRatio rm (decide (z < 0)) z.natAbs 1 k) := by
  have h := roundRatio_rounds hf rm (decide (z < 0)) k (Int.natAbs_ne_zero.2 hz) one_ne_zero
  have habs : (z.natAbs : ℝ) = |(z : ℝ)| := Nat.cast_natAbs z |>.trans (by push_cast; rfl)
  have hsign : (if decide (z < 0) = true then -1 else 1) * (z.natAbs : ℝ) = z := by
    rw [habs]
    by_cases hneg : z < 0
    · have : (z : ℝ) < 0 := by exact_mod_cast hneg
      simp [hneg, abs_of_neg this]
    · have : (0 : ℝ) ≤ z := by exact_mod_cast not_lt.1 hneg
      simp [hneg, abs_of_nonneg this]
  rwa [Nat.cast_one, div_one, ← mul_assoc, hsign] at h

theorem Fmt.Regular.roundSum_sum (hf : f.Regular) (rm : RoundingMode) (x y : BitVec W) :
    (f.rat x + f.rat y ≠ 0 → f.Rounds rm ((f.rat x + f.rat y : ℚ) : ℝ) (f.roundSum rm x y (f.val x + f.val y))) ∧
    (f.rat x + f.rat y = 0 → f.roundSum rm x y (f.val x + f.val y) =
      if f.iszero x = true ∧ f.iszero y = true ∧ signbit x = signbit y then x else f.zero (rm == .towardNegative)) := by
  have hU : (2 : ℚ) ^ f.unit ≠ 0 := by positivity
  rw [f.rat_add_rat]
  unfold Fmt.roundSum
  by_cases hz : f.val x + f.val y = 0
  · simp [hz, and_assoc]
  · refine ⟨fun _ => ?_, fun h => ?_⟩
    · rw [if_pos hz]
      push_cast
      exact_mod_cast hf.roundRatio_int rm hz f.unit
    · exact absurd h (mul_ne_zero (Int.cast_ne_zero.2 hz) hU)

theorem Fmt.Regular.addition_answers (hf : f.Regular) (rm : RoundingMode) :
    Answers2 f (f.addition rm) f.SumInvalid (f.Sum rm) := by
  intro x y hx hy
  by_cases hinv : f.SumInvalid x y
  · obtain ⟨hix, hiy, hs⟩ := id hinv
    exact .inl ⟨hinv, by simp [Fmt.addition, hix, hiy, hs]⟩
  refine .inr ⟨hinv, ?_⟩
  have hguard : ¬ (f.isinf x && f.isinf y && signbit x != signbit y) = true := by
    simpa [Fmt.SumInvalid] using hinv
  rw [Fmt.addition, if_neg hguard]
  by_cases hix : f.isinf x = true
  · -- an infinity, and no infinity of the other sign
    refine ⟨x, if_pos hix, fun _ => rfl, fun hiy => ?_, fun hfin => absurd hfin (Fmt.not_isfinite_of_isinf hix)⟩
    have hs : signbit x = signbit y := by
      by_contra hs
      exact hinv ⟨hix, hiy, hs⟩
    rw [hf.eq_inf_of_isinf hix, hf.eq_inf_of_isinf hiy, hs]
  rw [if_neg hix]
  by_cases hiy : f.isinf y = true
  · exact ⟨y, if_pos hiy, fun h => absurd h hix, fun _ => rfl, fun _ hfin => absurd hfin (Fmt.not_isfinite_of_isinf hiy)⟩
  rw [if_neg hiy]
  exact ⟨_, rfl, fun h => absurd h hix, fun h => absurd h hiy, fun _ _ => hf.roundSum_sum rm x y⟩

theorem Fmt.Regular.subtraction_answers (hf : f.Regular) (rm : RoundingMode) :
    Answers2 f (f.subtraction rm) (fun x y => f.SumInvalid x (fpNegate y)) (fun x y r => f.Sum rm x (fpNegate y) r) :=
  fun x y hx hy => hf.addition_answers rm x (fpNegate y) hx (hf.isnan_fpNegate hy)

/-! ### Product and quotient (R153, R154) -/

theorem Fmt.Regular.roundRatio_product (hf : f.Regular) (rm : RoundingMode) {x y : BitVec W} (hx : f.iszero x = false)
    (hy : f.iszero y = false) : f.Rounds rm ((f.rat x * f.rat y : ℚ) : ℝ)
      (f.roundRatio rm (signbit x ^^ signbit y) (f.mag x * f.mag y) 1 (2 * f.unit)) := by
  have h := roundRatio_rounds hf rm (signbit x ^^ signbit y) (2 * f.unit)
    (Nat.mul_ne_zero (f.mag_ne_zero hx) (f.mag_ne_zero hy)) one_ne_zero
  have hval : ((f.rat x * f.rat y : ℚ) : ℝ) =
      (if (signbit x ^^ signbit y) = true then -1 else 1) * (((f.mag x * f.mag y : Nat) : ℝ) / (1 : Nat) * 2 ^ (2 * f.unit)) := by
    rw [← signFactor, signFactor_xor, two_mul, zpow_add₀ two_ne_zero]
    push_cast
    rw [f.rat_eq_mag, f.rat_eq_mag]
    ring
  rwa [hval]

theorem Fmt.Regular.multiplication_answers (hf : f.Regular) (rm : RoundingMode) :
    Answers2 f (f.multiplication rm) f.ProductInvalid (f.Product rm) := by
  intro x y hx hy
  have hguard : (f.isinf x && f.iszero y || f.iszero x && f.isinf y) = true ↔ f.ProductInvalid x y := by
    simp [Fmt.ProductInvalid]
  by_cases hinv : f.ProductInvalid x y
  · exact .inl ⟨hinv, by rw [Fmt.multiplication, if_pos (hguard.2 hinv)]⟩
  refine .inr ⟨hinv, ?_⟩
  rw [Fmt.multiplication, if_neg (mt hguard.1 hinv)]
  by_cases hi : f.isinf x = true ∨ f.isinf y = true
  · refine ⟨_, if_pos (by simpa using hi), fun _ => rfl, fun hfx hfy => ?_⟩
    exact (hi.elim (fun h => Fmt.not_isfinite_of_isinf h hfx) fun h => Fmt.not_isfinite_of_isinf h hfy).elim
  rw [if_neg (by simpa using hi)]
  by_cases hz : f.iszero x = true ∨ f.iszero y = true
  · refine ⟨_, if_pos (by simpa using hz), fun h => absurd h hi, fun _ _ => ⟨fun h => ?_, fun _ => rfl⟩⟩
    rw [mul_ne_zero_iff, ne_eq, ne_eq, f.rat_eq_zero_iff, f.rat_eq_zero_iff] at h
    exact absurd hz (not_or.2 h)
  · rw [if_neg (by simpa using hz)]
    simp only [not_or, Bool.not_eq_true] at hz
    refine ⟨_, rfl, fun h => absurd h hi, fun _ _ => ⟨fun _ => hf.roundRatio_product rm hz.1 hz.2, fun h => ?_⟩⟩
    rw [mul_eq_zero, f.rat_eq_zero_iff, f.rat_eq_zero_iff] at h
    simp [hz] at h

theorem Fmt.Regular.roundRatio_quotient (hf : f.Regular) (rm : RoundingMode) {x y : BitVec W} (hx : f.iszero x = false)
    (hy : f.iszero y = false) : f.Rounds rm ((f.rat x / f.rat y : ℚ) : ℝ)
      (f.roundRatio rm (signbit x ^^ signbit y) (f.mag x) (f.mag y) 0) := by
  have h := roundRatio_rounds hf rm (signbit x ^^ signbit y) 0 (f.mag_ne_zero hx) (f.mag_ne_zero hy)
  have hval : ((f.rat x / f.rat y : ℚ) : ℝ) =
      (if (signbit x ^^ signbit y) = true then -1 else 1) * ((f.mag x : ℝ) / f.mag y * 2 ^ (0 : Int)) := by
    have hs : signFactor (signbit y) ≠ 0 := left_ne_zero_of_mul_eq_one (signFactor_mul_self _)
    have hmag : (f.mag y : ℝ) ≠ 0 := Nat.cast_ne_zero.2 (f.mag_ne_zero hy)
    rw [← signFactor, signFactor_xor]
    push_cast
    rw [f.rat_eq_mag, f.rat_eq_mag, zpow_zero, div_eq_iff (by positivity)]
    field_simp
    rw [pow_two, signFactor_mul_self, mul_one]
  rwa [hval]

theorem Fmt.Regular.division_answers (hf : f.Regular) (rm : RoundingMode) :
    Answers2 f (f.division rm) f.QuotientInvalid (f.Quotient rm) := by
  intro x y hx hy
  have hguard : f.QuotientInvalid x y ↔ (f.isinf x && f.isinf y) = true ∨ (f.iszero x && f.iszero y) = true := by
    simp [Fmt.QuotientInvalid]
  by_cases hinv : f.QuotientInvalid x y
  · refine .inl ⟨hinv, ?_⟩
    by_cases hinf : (f.isinf x && f.isinf y) = true
    · rw [Fmt.division, if_pos hinf]
    · rw [Fmt.division, if_neg hinf, if_pos ((hguard.1 hinv).resolve_left hinf)]
  refine .inr ⟨hinv, ?_⟩
  rw [hguard, not_or] at hinv
  rw [Fmt.division, if_neg hinv.1, if_neg hinv.2]
  by_cases hix : f.isinf x = true
  · have hnfx := Fmt.not_isfinite_of_isinf hix
    exact ⟨_, if_pos hix, fun _ => rfl, fun h => absurd h hnfx, fun h => absurd h hnfx⟩
  rw [if_neg hix]
  by_cases hiy : f.isinf y = true
  · exact ⟨_, if_pos hiy, fun h => absurd h hix, fun _ _ => rfl, fun _ h => absurd h (Fmt.not_isfinite_of_isinf hiy)⟩
  rw [if_neg hiy]
  by_cases hzy : f.iszero y = true
  · exact ⟨_, if_pos hzy, fun h => absurd h hix, fun _ h => absurd h hiy, fun _ _ =>
      ⟨fun _ => rfl, fun _ h => by simp [hzy] at h, fun _ h => by simp [hzy] at h⟩⟩
  rw [if_neg hzy]
  by_cases hzx : f.iszero x = true
  · exact ⟨_, if_pos hzx, fun h => absurd h hix, fun _ h => absurd h hiy, fun _ _ =>
      ⟨fun h => absurd h hzy, fun _ _ => rfl, fun h => by simp [hzx] at h⟩⟩
  · exact ⟨_, if_neg hzx, fun h => absurd h hix, fun _ h => absurd h hiy, fun _ _ =>
      ⟨fun h => absurd h hzy, fun h => absurd h hzx, hf.roundRatio_quotient rm⟩⟩

/-! ### Square root (R155) -/

theorem Fmt.Regular.squareRoot_answers (hf : f.Regular) (rm : RoundingMode) :
    Answers1 f (f.squareRoot rm) f.RootInvalid (f.Root rm) := by
  intro x hx
  rw [Fmt.squareRoot]
  by_cases hz : f.iszero x = true
  · refine .inr ⟨fun h => by simp [Fmt.RootInvalid, hz] at h, x, if_pos hz, fun _ => rfl, fun _ => rfl, fun _ h => ?_⟩
    simp [hz] at h
  rw [if_neg hz]
  by_cases hs : signbit x = true
  · exact .inl ⟨⟨hs, by simpa using hz⟩, if_pos hs⟩
  rw [if_neg hs]
  refine .inr ⟨fun h => hs h.1, ?_⟩
  by_cases hi : f.isinf x = true
  · exact ⟨x, if_pos hi, fun _ => rfl, fun _ => rfl, fun h => absurd h (Fmt.not_isfinite_of_isinf hi)⟩
  · refine ⟨_, if_neg hi, fun h => absurd h hz, fun h => absurd h hi, fun _ hz' => ?_⟩
    have hval : (f.rat x : ℝ) = f.mag x * 2 ^ f.unit := by simp [f.rat_eq_mag, signFactor, hs]
    rw [hval]
    exact roundSqrt_rounds hf rm (f.mag_ne_zero hz') f.unit

/-! ### Approximations (R506, R507) -/

/-- Of the three classes with a fixed result no two share a datum. -/
theorem Fmt.Regular.recipApprox_approximates (hf : f.Regular) (draw : Nat → BitVec W) (n : Nat) (x : BitVec W) :
    f.Approximates x (f.recipApprox draw n x) := by
  have hpos := hf.infCode_pos
  have hnan := f.isnan_iff x
  have hinf := f.isinf_iff x
  have hzero := f.iszero_iff x
  rw [Fmt.recipApprox]
  refine ⟨fun h => if_pos h, fun h => ?_, fun h => ?_⟩
  · have hn : ¬ f.isnan x = true := by rw [hnan, hzero.1 h]; omega
    rw [if_neg hn, if_pos h]
  · have hn : ¬ f.isnan x = true := by rw [hnan, hinf.1 h]; omega
    have hz : ¬ f.iszero x = true := by rw [hzero, hinf.1 h]; omega
    rw [if_neg hn, if_neg hz, if_pos h]

end

/-! ### The statements -/

section
variable {f : Fmt W}

/-- A wrapped operation of two operands, given what its IEEE function answers. -/
theorem wrapBinaryLanes_of_answers (hf : f.Regular) (hW : 0 < W ∧ W * L ≤ 128)
    {func : RoundingMode → BitVec W → BitVec W → Option (BitVec W)} {invalid : BitVec W → BitVec W → Prop}
    {core : RoundingMode → BitVec W → BitVec W → BitVec W → Prop} (h : ∀ rm, Answers2 f (func rm) invalid (core rm))
    {mk : Ident → VOperand → VOperand → RoundingMode → Instr} (hexec : ∀ s d a b rm, exec (mk d a b rm) s =
      drawBinary s d L a b (lanewiseDraw2 s.params.laneMapping W (f.wrapBinary s.params.flushSubnormals (func rm))))
    (rm : RoundingMode) :
    BinaryLanes W L L (fun d a b => mk d a b rm) fun p => f.WrappedBinary p invalid (core rm) :=
  binaryLanes_of_draw (F := fun p => f.wrapBinary p.flushSubnormals (func rm)) hW.1 hW.2
    (fun s d a b => hexec s d a b rm) fun p => hf.wrapBinary_wrapped (h rm) p

/-- A wrapped operation of one operand, given what its IEEE function answers. -/
theorem wrapUnaryLanes_of_answers (hf : f.Regular) (hW : 0 < W ∧ W * L ≤ 128)
    {func : RoundingMode → BitVec W → Option (BitVec W)} {invalid : BitVec W → Prop}
    {core : RoundingMode → BitVec W → BitVec W → Prop} (h : ∀ rm, Answers1 f (func rm) invalid (core rm))
    {mk : Ident → VOperand → RoundingMode → Instr} (hexec : ∀ s d a rm, exec (mk d a rm) s =
      drawUnary s d L a (lanewiseDraw1 s.params.laneMapping W (f.wrapUnary s.params.flushSubnormals (func rm))))
    (rm : RoundingMode) : UnaryLanes W L L (fun d a => mk d a rm) fun p => f.WrappedUnary p invalid (core rm) :=
  unaryLanes_of_draw (F := fun p => f.wrapUnary p.flushSubnormals (func rm)) hW.1 hW.2 (fun s d a => hexec s d a rm)
    fun p => hf.wrapUnary_wrapped (h rm) p

/-- An approximation, with either of its two names. -/
theorem approximationLanes (hf : f.Regular) (hW : 0 < W ∧ W * L ≤ 128) (draw : Nat → BitVec W) {mk : Ident → VOperand → Instr}
    (hexec : ∀ s d a, exec (mk d a) s =
      drawUnary s d L a (lanewiseDraw1 s.params.laneMapping W (f.recipApprox draw))) :
    UnaryLanes W L L mk fun _ => f.Approximates :=
  unaryLanes_of_draw (F := fun _ => f.recipApprox draw) hW.1 hW.2 hexec fun _ => hf.recipApprox_approximates draw

end

/-- Settles O50: both operations are the wrapper around a sum, and the sum is exact before it is rounded. -/
theorem floatAddSub : Obligations.FloatAddSub := by
  have h32 := binary32_regular
  have h64 := binary64_regular
  have w32 : 0 < 32 ∧ 32 * 4 ≤ 128 := by decide
  have w64 : 0 < 64 ∧ 64 * 2 ≤ 128 := by decide
  refine ⟨?add32, ?add64, ?sub32, ?sub64⟩
  case add32 => exact wrapBinaryLanes_of_answers h32 w32 h32.addition_answers fun _ _ _ _ _ => rfl
  case add64 => exact wrapBinaryLanes_of_answers h64 w64 h64.addition_answers fun _ _ _ _ _ => rfl
  case sub32 => exact wrapBinaryLanes_of_answers h32 w32 h32.subtraction_answers fun _ _ _ _ _ => rfl
  case sub64 => exact wrapBinaryLanes_of_answers h64 w64 h64.subtraction_answers fun _ _ _ _ _ => rfl

/-- Settles O51: magnitudes multiply and divide as natural numbers, signs as factors, and the exact result is rounded. -/
theorem floatMulDiv : Obligations.FloatMulDiv := by
  have h32 := binary32_regular
  have h64 := binary64_regular
  have w32 : 0 < 32 ∧ 32 * 4 ≤ 128 := by decide
  have w64 : 0 < 64 ∧ 64 * 2 ≤ 128 := by decide
  refine ⟨?mul32, ?mul64, ?div32, ?div64⟩
  case mul32 => exact wrapBinaryLanes_of_answers h32 w32 h32.multiplication_answers fun _ _ _ _ _ => rfl
  case mul64 => exact wrapBinaryLanes_of_answers h64 w64 h64.multiplication_answers fun _ _ _ _ _ => rfl
  case div32 => exact wrapBinaryLanes_of_answers h32 w32 h32.division_answers fun _ _ _ _ _ => rfl
  case div64 => exact wrapBinaryLanes_of_answers h64 w64 h64.division_answers fun _ _ _ _ _ => rfl

/-- Settles O52: a datum that is positive and finite is its magnitude in units, whose real square root is rounded. -/
theorem floatSquareRoot : Obligations.FloatSquareRoot := by
  have h32 := binary32_regular
  have h64 := binary64_regular
  refine ⟨?sqrt32, ?sqrt64⟩
  case sqrt32 => exact wrapUnaryLanes_of_answers h32 (by decide) h32.squareRoot_answers fun _ _ _ _ => rfl
  case sqrt64 => exact wrapUnaryLanes_of_answers h64 (by decide) h64.squareRoot_answers fun _ _ _ _ => rfl

/-- Settles O53: the two approximations fix the same lanes, and a free draw is the whole of every other lane. -/
theorem reciprocalApproximations : Obligations.ReciprocalApproximations := by
  have h32 := binary32_regular
  have h64 := binary64_regular
  refine ⟨?recip32, ?recip64, ?rsqrt32, ?rsqrt64⟩
  case recip32 => exact approximationLanes h32 (by decide) Config.drawF32 fun _ _ _ => rfl
  case recip64 => exact approximationLanes h64 (by decide) Config.drawF64 fun _ _ _ => rfl
  case rsqrt32 => exact approximationLanes h32 (by decide) Config.drawF32 fun _ _ _ => rfl
  case rsqrt64 => exact approximationLanes h64 (by decide) Config.drawF64 fun _ _ _ => rfl

end Sys2Proof.Machine
end

section
/-! Conversions (49_conversions.md R550 to R552): integers are rounded as any exact value is, and a floating-point datum is cut
to the integer towards zero, which is a division of its magnitude. -/

namespace Sys2Proof.Machine

variable {W L : Nat}

/-! ### Integers to floating point (R158, R550, R551) -/

theorem Fmt.Regular.convertFromInt_rounds {f : Fmt W} (hf : f.Regular) (rm : RoundingMode) (z : Int) :
    (z = 0 → f.convertFromInt rm z = f.zero false) ∧ (z ≠ 0 → f.Rounds rm (z : ℝ) (f.convertFromInt rm z)) := by
  refine ⟨fun h => if_pos h, fun h => ?_⟩
  rw [Fmt.convertFromInt, if_neg h]
  simpa using hf.roundRatio_int rm h 0

theorem convertFromSigned_rounds {f : Fmt W} (hf : f.Regular) (rm : RoundingMode) (x : BitVec W) :
    (x.toInt = 0 → f.convertFromInt rm (sint x) = f.zero false) ∧
      (x.toInt ≠ 0 → f.Rounds rm (x.toInt : ℝ) (f.convertFromInt rm (sint x))) :=
  hf.convertFromInt_rounds rm (sint x)

theorem convertFromUnsigned_rounds {f : Fmt W} (hf : f.Regular) (rm : RoundingMode) (x : BitVec W) :
    (x.toNat = 0 → f.convertFromInt rm (uint x) = f.zero false) ∧
      (x.toNat ≠ 0 → f.Rounds rm (x.toNat : ℝ) (f.convertFromInt rm (uint x))) := by
  obtain ⟨hzero, hrounds⟩ := hf.convertFromInt_rounds rm (uint x)
  refine ⟨fun h => hzero (Int.natCast_eq_zero.2 h), fun h => ?_⟩
  have := hrounds (Int.natCast_ne_zero.2 h)
  rwa [uint, Int.cast_natCast] at this

/-- Settles O54: the integer of a lane is an exact value in units of 1. -/
theorem integersToFloat : Obligations.IntegersToFloat := by
  have h32 := binary32_regular
  have h64 := binary64_regular
  refine ⟨fun rm => ?signed32, fun rm => ?signed64, fun rm => ?unsigned32, fun rm => ?unsigned64⟩
  case signed32 =>
    exact unaryLanes_of_lanewise (fun _ => convertFromSigned_rounds h32 rm) (by decide) (by decide) fun _ _ _ => rfl
  case signed64 =>
    exact unaryLanes_of_lanewise (fun _ => convertFromSigned_rounds h64 rm) (by decide) (by decide) fun _ _ _ => rfl
  case unsigned32 =>
    exact unaryLanes_of_lanewise (fun _ => convertFromUnsigned_rounds h32 rm) (by decide) (by decide) fun _ _ _ => rfl
  case unsigned64 =>
    exact unaryLanes_of_lanewise (fun _ => convertFromUnsigned_rounds h64 rm) (by decide) (by decide) fun _ _ _ => rfl

/-! ### Truncation (R159) -/

theorem truncate_neg (q : ℚ) : truncate (-q) = -truncate q := by
  unfold truncate
  obtain hq | rfl | hq := lt_trichotomy q 0
  · rw [if_pos (by linarith), if_neg (by linarith), Int.floor_neg]
  · simp
  · rw [if_neg (by linarith), if_pos hq.le, Int.ceil_neg]

theorem truncate_natCast_div (m d : Nat) : truncate ((m : ℚ) / d) = (m / d : Nat) := by
  rw [truncate, if_pos (by positivity), Rat.floor_natCast_div_natCast, Int.natCast_div]

/-- A unit is `1 / 2^n`, as every format has its units below 1. -/
theorem Fmt.Regular.unit_nonpos {f : Fmt W} (hf : f.Regular) : f.unit ≤ 0 := by
  have := hf.emask_eq_bias
  have := hf.emask_ge
  have := hf.frac
  rw [Fmt.unit, Fmt.emin]
  omega

theorem Fmt.Regular.truncated_eq {f : Fmt W} (hf : f.Regular) (x : BitVec W) : f.truncated x = truncate (f.rat x) := by
  have hunit : (2 : ℚ) ^ f.unit = ((2 ^ (-f.unit).toNat : Nat) : ℚ)⁻¹ := by
    rw [Nat.cast_pow, Nat.cast_ofNat, ← zpow_natCast, ← zpow_neg, Int.toNat_of_nonneg (by have := hf.unit_nonpos; omega), neg_neg]
  have hmag : truncate (f.mag x * (2 : ℚ) ^ f.unit) = (f.mag x / 2 ^ (-f.unit).toNat : Nat) := by
    rw [hunit, ← div_eq_mul_inv, truncate_natCast_div]
  rw [f.rat_eq_val, Fmt.val, Fmt.truncated]
  split_ifs
  · rw [← hmag, Int.cast_neg, neg_mul, truncate_neg, Int.cast_natCast]
  · rw [← hmag, Int.cast_natCast]

/-! ### Floating point to integers (R552) -/

/-- A lane converts exactly when it has an integer, which is then the truncated value in the range of the destination. -/
theorem Fmt.Regular.toInteger_eq_some {f : Fmt W} (hf : f.Regular) {lo hi : Int} {x : BitVec W} (h : f.Converts lo hi x) :
    f.toInteger lo hi x = some (reduce W (truncate (f.rat x))) := by
  obtain ⟨hfin, hrange⟩ := h
  have hguard : ¬ (f.isnan x || f.isinf x) = true := by simpa [Fmt.isfinite] using hfin
  rw [Fmt.toInteger, if_neg hguard, hf.truncated_eq, if_pos hrange]

theorem Fmt.Regular.isSome_toInteger {f : Fmt W} (hf : f.Regular) (lo hi : Int) (x : BitVec W) :
    (f.toInteger lo hi x).isSome = true ↔ f.Converts lo hi x := by
  refine ⟨fun h => ?_, fun h => by rw [hf.toInteger_eq_some h]; rfl⟩
  rw [Fmt.toInteger] at h
  split_ifs at h with hguard hrange
  · simp at h
  · exact ⟨by simpa [Fmt.isfinite] using hguard, hf.truncated_eq x ▸ hrange⟩
  · simp at h

/-- What the model computes for a vector: the truncated lanes when all of them convert, and otherwise `fail`. -/
theorem Fmt.Regular.convertLanes_spec {f : Fmt W} (hf : f.Regular) (hW : 0 < W) (hL : 128 / W = L) (m : LaneMapping)
    (lo hi : Int) (n : Nat) (v : V128) :
    ((convertLanes m f lo hi n v).2 = true ↔ ∃ i < L, ¬ f.Converts lo hi (lane m W v i)) ∧
    ((convertLanes m f lo hi n v).2 = false → ∀ i < L,
      lane m W (convertLanes m f lo hi n v).1 i = reduce W (truncate (f.rat (lane m W v i)))) := by
  have hall : ((lanes m W v).map (f.toInteger lo hi)).all Option.isSome = true ↔ ∀ i < L, f.Converts lo hi (lane m W v i) := by
    simp [lanes, hL, hf.isSome_toInteger]
  rw [convertLanes]
  by_cases h : ∀ i < L, f.Converts lo hi (lane m W v i)
  · rw [if_pos (hall.2 h)]
    refine ⟨by simpa using h, fun _ i hi => ?_⟩
    rw [lane_ofLanes _ _ (lane_lt hW (hL ▸ hi))]
    simp [lanes, hL, hi, hf.toInteger_eq_some (h i hi)]
  · rw [if_neg (mt hall.1 h)]
    exact ⟨by simpa using h, fun hfail => by simp at hfail⟩

/-- Two results written: the frame of an instruction with two destinations. -/
theorem wrote_pair (s : State) {d₁ d₂ : Ident} (hne : d₁ ≠ d₂) (v₁ v₂ : Value) (n : Nat) :
    Wrote s (((s.putAll [(d₁, v₁), (d₂, v₂)]).advance).drew n) [(d₁, v₁), (d₂, v₂)] n where
  dest := by
    intro e he
    obtain rfl | rfl : e = (d₁, v₁) ∨ e = (d₂, v₂) := by simpa using he
    · exact (Slots.find_put_other hne v₂ _).trans (Slots.find_put_same d₁ v₁ s.slots)
    · exact Slots.find_put_same d₂ v₂ _
  others := fun x hx => s.slot_putAll _ x hx
  bytes := fun _ _ => rfl
  draws := rfl
  rest := ⟨rfl, rfl, rfl, rfl, fun _ => rfl⟩

/-- `fromFloat`, given how a lane is read as a number: a number in range is kept when it is stored (R40, R41). -/
theorem convertsLanes_of_convertLanes {f : Fmt W} (hf : f.Regular) (hW : 0 < W) (hL : 128 / W = L) {lo hi : Int}
    {num : BitVec W → Int} (hnum : ∀ z, lo ≤ z → z ≤ hi → num (reduce W z) = z) {mk : Ident → Ident → VOperand → Instr}
    (hexec : ∀ s d₁ d₂ a,
      exec (mk d₁ d₂ a) s = execCvt s d₁ d₂ (read kV128 s a) (convertLanes s.params.laneMapping f lo hi)) :
    ConvertsLanes f L lo hi num mk := by
  intro s d₁ d₂ a va ha hd₁ hd₂ hne
  obtain ⟨hfail, hlanes⟩ := hf.convertLanes_spec hW hL s.params.laneMapping lo hi s.draws va
  refine ⟨_, (convertLanes s.params.laneMapping f lo hi s.draws va).1, _, ?_, wrote_pair s hne _ _ 1, hfail,
    fun h i hlane => ?_⟩
  · rw [hexec]
    refine withOperands_val _ (read_of_holds kV128_lawful ha) ?_ (by simp) (by simp [distinctNames, hne])
    simp [hd₁, hd₂]
  · have hconv : f.Converts lo hi (lane s.params.laneMapping W va i) := by
      by_contra hnot
      exact absurd (hfail.2 ⟨i, hlane, hnot⟩) (by simp [h])
    obtain ⟨-, hlo, hhi⟩ := hconv
    rw [hlanes h i hlane]
    exact hnum _ hlo hhi

/-- Settles O55: a datum's integer towards zero is a division of its magnitude, and a number in the range of the lanes is kept
when it is stored in one. -/
theorem floatToIntegers : Obligations.FloatToIntegers := by
  have h32 := binary32_regular
  have h64 := binary64_regular
  refine ⟨?signed32, ?signed64, ?unsigned32, ?unsigned64⟩
  case signed32 =>
    exact convertsLanes_of_convertLanes h32 (by decide) rfl (fun _ => toInt_reduce_of_range (by decide)) fun _ _ _ _ => rfl
  case signed64 =>
    exact convertsLanes_of_convertLanes h64 (by decide) rfl (fun _ => toInt_reduce_of_range (by decide)) fun _ _ _ _ => rfl
  case unsigned32 =>
    exact convertsLanes_of_convertLanes h32 (by decide) rfl (fun _ => toNat_reduce_of_range) fun _ _ _ _ => rfl
  case unsigned64 =>
    exact convertsLanes_of_convertLanes h64 (by decide) rfl (fun _ => toNat_reduce_of_range) fun _ _ _ _ => rfl

end Sys2Proof.Machine
end
